-- ==== Sys2Proof/Word.lean ====
section
/-! DEFINITION. The words the CORE exchanges with its host (10_state.md R27; 30_encoding.md R60, R61). -/

namespace Sys2Proof

/-- A command word: 64 bits, bit 0 least significant (30_encoding.md R60; 00_scope.md R11). -/
abbrev Command := BitVec 64

/-- A response word: 48 bits, three lanes (30_encoding.md R61). -/
abbrev Response := BitVec 48

/-- The opcode `OPC = cmd[63:48]` (30_encoding.md R60). -/
abbrev Opcode := BitVec 16

/-- One 16-bit lane of a payload or a response (00_scope.md R16). -/
abbrev Lane := BitVec 16

/-- `cmd[47:16]` of a format S command (30_encoding.md R67). -/
abbrev Ignored := BitVec 32

end Sys2Proof
end

