-- ==== Sys2Proof/Syntax.lean ====
section
/-! DEFINITION. The instructions (30_encoding.md R60, R69) and the closed sets of names the spec uses: channel kinds
(10_state.md R30), HSV and RGB formats (30_encoding.md R66), the gamma mode (00_scope.md R8), and why an encoding is
reserved (30_encoding.md R71). -/

namespace Sys2Proof

/-- The eight kinds of single channel (10_state.md R30). -/
inductive ChannelKind
  | u5 | u6 | u8 | u16 | pct | a8 | deg | a16
  deriving DecidableEq, Repr

/-- HFMT, the HSV encoding (30_encoding.md R66). -/
inductive HsvFormat
  | hsv888 | hsvDecimal | hsv32 | hsv48
  deriving DecidableEq, Repr

/-- RFMT, the RGB channel width (30_encoding.md R66). -/
inductive RgbFormat
  | rgb8 | rgb16
  deriving DecidableEq, Repr

/-- `GAMMA16_MODE` (00_scope.md R8; 42_gamma_encode.md R168). -/
inductive GammaMode
  | exact | configured
  deriving DecidableEq, Repr

/-- Why an opcode is no row of the opcode map: the cases 30_encoding.md R71 lists. The names are the model's (log 9). -/
inductive ReservedReason
  /-- UNIT is 0 or 6 to 15. -/
  | unit
  /-- The ZERO field, bits 55:52, is not 0000. -/
  | zeroField
  /-- RS with PAIR 12 to 15. -/
  | pair
  /-- RS with `MODE[3:1]` not 000. -/
  | rescalerMode
  /-- GD or GE with VAR 3 to 15. -/
  | gammaVariant
  /-- GD or GE with MODE not 0000. -/
  | gammaFieldMode
  /-- H2R or R2H with `SUB[3:2]` not 00. -/
  | hsvFormat
  /-- H2R or R2H with `MODE[3:1]` not 000. -/
  | hsvMode
  /-- A row of UNIT 5 in a CORE built with `HAS_R2H` false (44_rgb_to_hsv.md R210). -/
  | unitAbsent
  deriving DecidableEq, Repr

/-- The 46 instructions, one constructor for each row of spec/opcode_table.json, with every operand bit of the command
word: format S carries `ignored = cmd[47:16]`, which no result depends on (30_encoding.md R67; log 10), and the operand
`x = cmd[15:0]`; format T carries three 16-bit lanes, the first-named channel in the highest (R68). -/
inductive Instr
  /-- `RS.U5.U8`, OPC 0x1000 (R110). -/
  | rsU5U8 (ignored : Ignored) (x : Lane)
  /-- `RS.U8.U5`, OPC 0x1001 (R111). -/
  | rsU8U5 (ignored : Ignored) (x : Lane)
  /-- `RS.U5.U16`, OPC 0x1100 (R112). -/
  | rsU5U16 (ignored : Ignored) (x : Lane)
  /-- `RS.U16.U5`, OPC 0x1101 (R113). -/
  | rsU16U5 (ignored : Ignored) (x : Lane)
  /-- `RS.U6.U8`, OPC 0x1200 (R114). -/
  | rsU6U8 (ignored : Ignored) (x : Lane)
  /-- `RS.U8.U6`, OPC 0x1201 (R115). -/
  | rsU8U6 (ignored : Ignored) (x : Lane)
  /-- `RS.U6.U16`, OPC 0x1300 (R116). -/
  | rsU6U16 (ignored : Ignored) (x : Lane)
  /-- `RS.U16.U6`, OPC 0x1301 (R117). -/
  | rsU16U6 (ignored : Ignored) (x : Lane)
  /-- `RS.U8.U8`, OPC 0x1400 (R118). -/
  | rsU8U8 (ignored : Ignored) (x : Lane)
  /-- `RS.U8.U8.I`, OPC 0x1401 (R119). -/
  | rsU8U8I (ignored : Ignored) (x : Lane)
  /-- `RS.U8.U16`, OPC 0x1500 (R120). -/
  | rsU8U16 (ignored : Ignored) (x : Lane)
  /-- `RS.U16.U8`, OPC 0x1501 (R121). -/
  | rsU16U8 (ignored : Ignored) (x : Lane)
  /-- `RS.U16.U16`, OPC 0x1600 (R122). -/
  | rsU16U16 (ignored : Ignored) (x : Lane)
  /-- `RS.U16.U16.I`, OPC 0x1601 (R123). -/
  | rsU16U16I (ignored : Ignored) (x : Lane)
  /-- `RS.PCT.U8`, OPC 0x1700 (R124). -/
  | rsPctU8 (ignored : Ignored) (x : Lane)
  /-- `RS.U8.PCT`, OPC 0x1701 (R125). -/
  | rsU8Pct (ignored : Ignored) (x : Lane)
  /-- `RS.PCT.U16`, OPC 0x1800 (R126). -/
  | rsPctU16 (ignored : Ignored) (x : Lane)
  /-- `RS.U16.PCT`, OPC 0x1801 (R127). -/
  | rsU16Pct (ignored : Ignored) (x : Lane)
  /-- `RS.A8.DEG`, OPC 0x1900 (R128). -/
  | rsA8Deg (ignored : Ignored) (x : Lane)
  /-- `RS.DEG.A8`, OPC 0x1901 (R129). -/
  | rsDegA8 (ignored : Ignored) (x : Lane)
  /-- `RS.DEG.A16`, OPC 0x1A00 (R130). -/
  | rsDegA16 (ignored : Ignored) (x : Lane)
  /-- `RS.A16.DEG`, OPC 0x1A01 (R131). -/
  | rsA16Deg (ignored : Ignored) (x : Lane)
  /-- `RS.A8.A16`, OPC 0x1B00 (R132). -/
  | rsA8A16 (ignored : Ignored) (x : Lane)
  /-- `RS.A16.A8`, OPC 0x1B01 (R133). -/
  | rsA16A8 (ignored : Ignored) (x : Lane)
  /-- `GD.G8.L8`, OPC 0x2000 (R144). -/
  | gdG8L8 (ignored : Ignored) (x : Lane)
  /-- `GD.G8.L16`, OPC 0x2100 (R145). -/
  | gdG8L16 (ignored : Ignored) (x : Lane)
  /-- `GD.G16.L16`, OPC 0x2200 (R146). -/
  | gdG16L16 (ignored : Ignored) (x : Lane)
  /-- `GE.L8.G8`, OPC 0x3000 (R164). -/
  | geL8G8 (ignored : Ignored) (x : Lane)
  /-- `GE.L16.G8`, OPC 0x3100 (R165). -/
  | geL16G8 (ignored : Ignored) (x : Lane)
  /-- `GE.L16.G16`, OPC 0x3200 (R166). -/
  | geL16G16 (ignored : Ignored) (x : Lane)
  /-- `H2R.H888.R8`, OPC 0x4000 (R190). -/
  | h2rH888R8 (h s v : Lane)
  /-- `H2R.H888.R16`, OPC 0x4001 (R191). -/
  | h2rH888R16 (h s v : Lane)
  /-- `H2R.HDEC.R8`, OPC 0x4100 (R192). -/
  | h2rHdecR8 (h s v : Lane)
  /-- `H2R.HDEC.R16`, OPC 0x4101 (R193). -/
  | h2rHdecR16 (h s v : Lane)
  /-- `H2R.H32.R8`, OPC 0x4200 (R194). -/
  | h2rH32R8 (h s v : Lane)
  /-- `H2R.H32.R16`, OPC 0x4201 (R195). -/
  | h2rH32R16 (h s v : Lane)
  /-- `H2R.H48.R8`, OPC 0x4300 (R196). -/
  | h2rH48R8 (h s v : Lane)
  /-- `H2R.H48.R16`, OPC 0x4301 (R197). -/
  | h2rH48R16 (h s v : Lane)
  /-- `R2H.R8.H888`, OPC 0x5000 (R220). -/
  | r2hR8H888 (r g b : Lane)
  /-- `R2H.R16.H888`, OPC 0x5001 (R221). -/
  | r2hR16H888 (r g b : Lane)
  /-- `R2H.R8.HDEC`, OPC 0x5100 (R222). -/
  | r2hR8Hdec (r g b : Lane)
  /-- `R2H.R16.HDEC`, OPC 0x5101 (R223). -/
  | r2hR16Hdec (r g b : Lane)
  /-- `R2H.R8.H32`, OPC 0x5200 (R224). -/
  | r2hR8H32 (r g b : Lane)
  /-- `R2H.R16.H32`, OPC 0x5201 (R225). -/
  | r2hR16H32 (r g b : Lane)
  /-- `R2H.R8.H48`, OPC 0x5300 (R226). -/
  | r2hR8H48 (r g b : Lane)
  /-- `R2H.R16.H48`, OPC 0x5301 (R227). -/
  | r2hR16H48 (r g b : Lane)
  deriving DecidableEq, Repr

end Sys2Proof
end

