-- ==== Sys2Proof/Decode.lean ====
section
/-! DEFINITION. The decoder (30_encoding.md R70: total on all 64-bit words, the top 16 bits alone select the row) and the
encoder (30_encoding.md R60, R67, R68, R69). Nothing is byte-addressed (20_memory.md R42), so both work on whole words. -/

namespace Sys2Proof

/-- `cmd[63:48]`, the opcode (30_encoding.md R60). -/
def opcodeField (w : Command) : Opcode := w.extractLsb' 48 16

/-- `cmd[47:16]`, which format S ignores (30_encoding.md R67). -/
def ignoredField (w : Command) : Ignored := w.extractLsb' 16 32

/-- Lane 0, bits 15:0: `X` or `C0` (20_memory.md R42). -/
def lane0 (w : Command) : Lane := w.extractLsb' 0 16

/-- Lane 1, bits 31:16: `C1` (20_memory.md R42). -/
def lane1 (w : Command) : Lane := w.extractLsb' 16 16

/-- Lane 2, bits 47:32: `C2` (20_memory.md R42). -/
def lane2 (w : Command) : Lane := w.extractLsb' 32 16

/-- UNIT, bits 63:60 (30_encoding.md R60). -/
def unitField (opc : Opcode) : Nat := opc.toNat / 4096

/-- SUB, bits 59:56 (30_encoding.md R60): PAIR, VAR or HFMT. -/
def subField (opc : Opcode) : Nat := opc.toNat / 256 % 16

/-- ZERO, bits 55:52 (30_encoding.md R60). -/
def zeroFieldOf (opc : Opcode) : Nat := opc.toNat / 16 % 16

/-- MODE, bits 51:48 (30_encoding.md R60): DIR or RFMT in its lowest bit. -/
def modeField (opc : Opcode) : Nat := opc.toNat % 16

/-- The case of 30_encoding.md R71 a reserved opcode falls under; the fields are read from the most significant down,
but ZERO before SUB and MODE (log 9). -/
def reservedReason (opc : Opcode) : ReservedReason :=
  if unitField opc = 0 ∨ 5 < unitField opc then .unit
  else if zeroFieldOf opc ≠ 0 then .zeroField
  else if unitField opc = 1 then (if 11 < subField opc then .pair else .rescalerMode)
  else if unitField opc = 2 ∨ unitField opc = 3 then (if 2 < subField opc then .gammaVariant else .gammaFieldMode)
  else if 3 < subField opc then .hsvFormat
  else .hsvMode

/-- The eight rows of UNIT 5 are there only when `HAS_R2H` is true (30_encoding.md R70; 44_rgb_to_hsv.md R210). -/
def ifR2H (hasR2H : Bool) (i : Instr) : Except ReservedReason Instr :=
  if hasR2H then .ok i else .error .unitAbsent

/-- The decoder of 30_encoding.md R70, for a CORE with or without the R2H unit. -/
def decode (hasR2H : Bool) (w : Command) : Except ReservedReason Instr :=
  match opcodeField w with
  | 0x1000#16 => .ok (.rsU5U8 (ignoredField w) (lane0 w))
  | 0x1001#16 => .ok (.rsU8U5 (ignoredField w) (lane0 w))
  | 0x1100#16 => .ok (.rsU5U16 (ignoredField w) (lane0 w))
  | 0x1101#16 => .ok (.rsU16U5 (ignoredField w) (lane0 w))
  | 0x1200#16 => .ok (.rsU6U8 (ignoredField w) (lane0 w))
  | 0x1201#16 => .ok (.rsU8U6 (ignoredField w) (lane0 w))
  | 0x1300#16 => .ok (.rsU6U16 (ignoredField w) (lane0 w))
  | 0x1301#16 => .ok (.rsU16U6 (ignoredField w) (lane0 w))
  | 0x1400#16 => .ok (.rsU8U8 (ignoredField w) (lane0 w))
  | 0x1401#16 => .ok (.rsU8U8I (ignoredField w) (lane0 w))
  | 0x1500#16 => .ok (.rsU8U16 (ignoredField w) (lane0 w))
  | 0x1501#16 => .ok (.rsU16U8 (ignoredField w) (lane0 w))
  | 0x1600#16 => .ok (.rsU16U16 (ignoredField w) (lane0 w))
  | 0x1601#16 => .ok (.rsU16U16I (ignoredField w) (lane0 w))
  | 0x1700#16 => .ok (.rsPctU8 (ignoredField w) (lane0 w))
  | 0x1701#16 => .ok (.rsU8Pct (ignoredField w) (lane0 w))
  | 0x1800#16 => .ok (.rsPctU16 (ignoredField w) (lane0 w))
  | 0x1801#16 => .ok (.rsU16Pct (ignoredField w) (lane0 w))
  | 0x1900#16 => .ok (.rsA8Deg (ignoredField w) (lane0 w))
  | 0x1901#16 => .ok (.rsDegA8 (ignoredField w) (lane0 w))
  | 0x1A00#16 => .ok (.rsDegA16 (ignoredField w) (lane0 w))
  | 0x1A01#16 => .ok (.rsA16Deg (ignoredField w) (lane0 w))
  | 0x1B00#16 => .ok (.rsA8A16 (ignoredField w) (lane0 w))
  | 0x1B01#16 => .ok (.rsA16A8 (ignoredField w) (lane0 w))
  | 0x2000#16 => .ok (.gdG8L8 (ignoredField w) (lane0 w))
  | 0x2100#16 => .ok (.gdG8L16 (ignoredField w) (lane0 w))
  | 0x2200#16 => .ok (.gdG16L16 (ignoredField w) (lane0 w))
  | 0x3000#16 => .ok (.geL8G8 (ignoredField w) (lane0 w))
  | 0x3100#16 => .ok (.geL16G8 (ignoredField w) (lane0 w))
  | 0x3200#16 => .ok (.geL16G16 (ignoredField w) (lane0 w))
  | 0x4000#16 => .ok (.h2rH888R8 (lane2 w) (lane1 w) (lane0 w))
  | 0x4001#16 => .ok (.h2rH888R16 (lane2 w) (lane1 w) (lane0 w))
  | 0x4100#16 => .ok (.h2rHdecR8 (lane2 w) (lane1 w) (lane0 w))
  | 0x4101#16 => .ok (.h2rHdecR16 (lane2 w) (lane1 w) (lane0 w))
  | 0x4200#16 => .ok (.h2rH32R8 (lane2 w) (lane1 w) (lane0 w))
  | 0x4201#16 => .ok (.h2rH32R16 (lane2 w) (lane1 w) (lane0 w))
  | 0x4300#16 => .ok (.h2rH48R8 (lane2 w) (lane1 w) (lane0 w))
  | 0x4301#16 => .ok (.h2rH48R16 (lane2 w) (lane1 w) (lane0 w))
  | 0x5000#16 => ifR2H hasR2H (.r2hR8H888 (lane2 w) (lane1 w) (lane0 w))
  | 0x5001#16 => ifR2H hasR2H (.r2hR16H888 (lane2 w) (lane1 w) (lane0 w))
  | 0x5100#16 => ifR2H hasR2H (.r2hR8Hdec (lane2 w) (lane1 w) (lane0 w))
  | 0x5101#16 => ifR2H hasR2H (.r2hR16Hdec (lane2 w) (lane1 w) (lane0 w))
  | 0x5200#16 => ifR2H hasR2H (.r2hR8H32 (lane2 w) (lane1 w) (lane0 w))
  | 0x5201#16 => ifR2H hasR2H (.r2hR16H32 (lane2 w) (lane1 w) (lane0 w))
  | 0x5300#16 => ifR2H hasR2H (.r2hR8H48 (lane2 w) (lane1 w) (lane0 w))
  | 0x5301#16 => ifR2H hasR2H (.r2hR16H48 (lane2 w) (lane1 w) (lane0 w))
  | opc => .error (reservedReason opc)

/-- A format S word: the opcode, the 32 ignored bits, the operand (30_encoding.md R60). -/
def wordS (opc : Opcode) (ign : Ignored) (x : Lane) : Command := (opc ++ ign ++ x : BitVec (16 + 32 + 16))

/-- A format T word: the opcode and three lanes (30_encoding.md R60, R68). -/
def wordT (opc : Opcode) (c2 c1 c0 : Lane) : Command := (opc ++ c2 ++ c1 ++ c0 : BitVec (16 + 16 + 16 + 16))

/-- The word of an instruction (30_encoding.md R60, R69). -/
def encode : Instr → Command
  | .rsU5U8 ign x => wordS 0x1000 ign x
  | .rsU8U5 ign x => wordS 0x1001 ign x
  | .rsU5U16 ign x => wordS 0x1100 ign x
  | .rsU16U5 ign x => wordS 0x1101 ign x
  | .rsU6U8 ign x => wordS 0x1200 ign x
  | .rsU8U6 ign x => wordS 0x1201 ign x
  | .rsU6U16 ign x => wordS 0x1300 ign x
  | .rsU16U6 ign x => wordS 0x1301 ign x
  | .rsU8U8 ign x => wordS 0x1400 ign x
  | .rsU8U8I ign x => wordS 0x1401 ign x
  | .rsU8U16 ign x => wordS 0x1500 ign x
  | .rsU16U8 ign x => wordS 0x1501 ign x
  | .rsU16U16 ign x => wordS 0x1600 ign x
  | .rsU16U16I ign x => wordS 0x1601 ign x
  | .rsPctU8 ign x => wordS 0x1700 ign x
  | .rsU8Pct ign x => wordS 0x1701 ign x
  | .rsPctU16 ign x => wordS 0x1800 ign x
  | .rsU16Pct ign x => wordS 0x1801 ign x
  | .rsA8Deg ign x => wordS 0x1900 ign x
  | .rsDegA8 ign x => wordS 0x1901 ign x
  | .rsDegA16 ign x => wordS 0x1A00 ign x
  | .rsA16Deg ign x => wordS 0x1A01 ign x
  | .rsA8A16 ign x => wordS 0x1B00 ign x
  | .rsA16A8 ign x => wordS 0x1B01 ign x
  | .gdG8L8 ign x => wordS 0x2000 ign x
  | .gdG8L16 ign x => wordS 0x2100 ign x
  | .gdG16L16 ign x => wordS 0x2200 ign x
  | .geL8G8 ign x => wordS 0x3000 ign x
  | .geL16G8 ign x => wordS 0x3100 ign x
  | .geL16G16 ign x => wordS 0x3200 ign x
  | .h2rH888R8 h s v => wordT 0x4000 h s v
  | .h2rH888R16 h s v => wordT 0x4001 h s v
  | .h2rHdecR8 h s v => wordT 0x4100 h s v
  | .h2rHdecR16 h s v => wordT 0x4101 h s v
  | .h2rH32R8 h s v => wordT 0x4200 h s v
  | .h2rH32R16 h s v => wordT 0x4201 h s v
  | .h2rH48R8 h s v => wordT 0x4300 h s v
  | .h2rH48R16 h s v => wordT 0x4301 h s v
  | .r2hR8H888 r g b => wordT 0x5000 r g b
  | .r2hR16H888 r g b => wordT 0x5001 r g b
  | .r2hR8Hdec r g b => wordT 0x5100 r g b
  | .r2hR16Hdec r g b => wordT 0x5101 r g b
  | .r2hR8H32 r g b => wordT 0x5200 r g b
  | .r2hR16H32 r g b => wordT 0x5201 r g b
  | .r2hR8H48 r g b => wordT 0x5300 r g b
  | .r2hR16H48 r g b => wordT 0x5301 r g b

/-- The instruction the decoder reads from the table's bits: one 64-bit word with bit 0 its least significant bit
(30_encoding.md R60), `HAS_R2H` at its default (log 7, log 11). -/
def decodeTableWord (nbits w : Nat) : Option Instr :=
  match decode true (BitVec.ofNat 64 (w % 2 ^ nbits)) with
  | .ok i => some i
  | .error _ => none

end Sys2Proof
end

