-- ==== Sys2Proof/Machine/Operands.lean ====
section
/-! DEFINITION. Operand kinds and formats: nominal ranges (10_state.md R29, R30), the parameters HFMT and RFMT fix
(30_encoding.md R66), and how a result is laid out in the response word (30_encoding.md R61, R68). -/

namespace Sys2Proof.Machine

/-- The largest value of the nominal range of a channel kind (10_state.md R30). -/
def kindMax : ChannelKind → Nat
  | .u5 => 31
  | .u6 => 63
  | .u8 => 255
  | .u16 => 65535
  | .pct => 100
  | .a8 => 255
  | .deg => 359
  | .a16 => 65535

/-- The operand, all 16 bits of it, is in the nominal range of its kind (30_encoding.md R67: never truncated). -/
def kindHolds (k : ChannelKind) (x : Lane) : Bool := decide (x.toNat ≤ kindMax k)

/-- `h_wrap`, the number of hue codes in one turn (30_encoding.md R66). -/
def hWrap : HsvFormat → Nat
  | .hsv888 => 256
  | .hsvDecimal => 360
  | .hsv32 => 65536
  | .hsv48 => 65536

/-- `max_sv`, the largest saturation or value code (30_encoding.md R66). -/
def maxSv : HsvFormat → Nat
  | .hsv888 => 255
  | .hsvDecimal => 100
  | .hsv32 => 255
  | .hsv48 => 65535

/-- `max_rgb`, the largest RGB channel code (30_encoding.md R66). -/
def maxRgb : RgbFormat → Nat
  | .rgb8 => 255
  | .rgb16 => 65535

/-- Valid operands of H2R: `h < h_wrap`, `s` and `v` at most `max_sv` (43_hsv_to_rgb.md R180). -/
def hsvHolds (f : HsvFormat) (h s v : Lane) : Bool :=
  decide (h.toNat < hWrap f) && decide (s.toNat ≤ maxSv f) && decide (v.toNat ≤ maxSv f)

/-- Valid operands of R2H: every channel at most `max_rgb` (44_rgb_to_hsv.md R210). -/
def rgbHolds (f : RgbFormat) (r g b : Lane) : Bool :=
  decide (r.toNat ≤ maxRgb f) && decide (g.toNat ≤ maxRgb f) && decide (b.toNat ≤ maxRgb f)

/-- A three-channel result, the first-named channel first (30_encoding.md R68); exact naturals (00_scope.md R9). -/
structure Tuple where
  c2 : Nat
  c1 : Nat
  c0 : Nat
  deriving DecidableEq, Repr

/-- The response of format S: `zext_48(y)`, with lanes 1 and 2 zero (30_encoding.md R61). -/
def scalarResponse (y : Nat) : Response := (BitVec.ofNat 16 y).setWidth 48

/-- The response of format T: each channel zero-extended to its lane (30_encoding.md R61, R68). -/
def tupleResponse (t : Tuple) : Response :=
  (BitVec.ofNat 16 t.c2 ++ BitVec.ofNat 16 t.c1 ++ BitVec.ofNat 16 t.c0 : BitVec (16 + 16 + 16))

/-- Lane 2 of a response, bits 47:32 (30_encoding.md R61). -/
def rspLane2 (r : Response) : Lane := r.extractLsb' 32 16

/-- Lane 1 of a response, bits 31:16 (30_encoding.md R61). -/
def rspLane1 (r : Response) : Lane := r.extractLsb' 16 16

/-- Lane 0 of a response, bits 15:0 (30_encoding.md R61). -/
def rspLane0 (r : Response) : Lane := r.extractLsb' 0 16

end Sys2Proof.Machine
end

