-- ==== Sys2Proof/Config.lean ====
section
/-! DEFINITION. What the spec leaves free: constants with no body, of which nothing can be proved. -/

namespace Sys2Proof

/-- `any(48)` (00_scope.md R12; 60_exceptions.md R262): the response drawn, as draw number `draw` of a run, for an
instruction whose operands violate the caller contract. A free value (log 6). -/
opaque Config.anyResponse (draw : Nat) (i : Instr) : Response

/-- An arbitrary candidate for `cfg_dec16` of `GAMMA16_MODE = configured` (42_gamma_encode.md R168; log 8). -/
opaque Config.rawDec16 : Lane → Lane

/-- An arbitrary candidate for `cfg_enc16` of `GAMMA16_MODE = configured` (42_gamma_encode.md R168; log 8). -/
opaque Config.rawEnc16 : Lane → Lane

/-- An arbitrary candidate for `cfg_enc16to8` of `GAMMA16_MODE = configured` (42_gamma_encode.md R168; log 8). -/
opaque Config.rawEnc16to8 : Lane → BitVec 8

end Sys2Proof
end

