-- ==== Sys2Proof/Machine/State.lean ====
section
/-! DEFINITION. The state of the machine: the ports, the commands in flight, the parameters and what the host does next
(10_state.md R20, R27, R28; 00_scope.md R8), and the reasons a step can stop. The CORE has no register, program counter, flag,
mode, control register or memory (10_state.md R20 to R25; 20_memory.md R41; log 20), and the model has one instance of it with one
command port and no clock (log 17). -/

namespace Sys2Proof.Machine

/-- What the host, the only initiator (70_reset_and_hazards.md R287), does in one step. -/
inductive HostEvent
  /-- `cmd_valid` is 1 and `cmd` is the word (10_state.md R27). -/
  | present (w : Command)
  /-- `cmd_valid` is 0: nothing is presented. -/
  | idle
  /-- The reset event (70_reset_and_hazards.md R280). -/
  | reset
  deriving DecidableEq, Repr

/-- A command accepted and not yet answered (10_state.md R28), with the number of steps it still has to wait. -/
structure PendingCommand where
  word : Command
  wait : Nat
  deriving DecidableEq, Repr

/-- The machine. -/
structure State where
  /-- `HAS_R2H` (00_scope.md R8; log 7): no step changes it. -/
  hasR2H : Bool
  /-- `GAMMA16_MODE` (00_scope.md R8; log 8): no step changes it. -/
  gammaMode : GammaMode
  /-- `LATENCY` (00_scope.md R8; 70_reset_and_hazards.md R286; log 3): the delays of the commands still to be accepted, in
  order, 0 for every command after the list has ended. -/
  latencies : List Nat
  /-- What the host is still going to do, first event first (70_reset_and_hazards.md R287; log 2). -/
  host : List HostEvent
  /-- The commands accepted and not yet answered, oldest first (10_state.md R28; log 4). -/
  inFlight : List PendingCommand
  /-- The response port (10_state.md R27): `none` while `rsp_valid` is 0, `some rsp` while it is 1 (log 5). -/
  rspPort : Option Response
  /-- The responses so far, in order: the observable result of a run (70_reset_and_hazards.md R287; log 19). -/
  responses : List Response
  /-- The model's own: how many `any(48)` values have been drawn (log 6). -/
  draws : Nat
  deriving DecidableEq, Repr

/-- The machine right after reset (10_state.md R37; 70_reset_and_hazards.md R280): nothing in flight, `rsp_valid` 0. The
parameters are at the defaults 00_scope.md R8 states; that the host presents nothing, that every LATENCY is 0, that no
response is recorded and that no draw was made are the model's choices (logs 2, 3, 19, 6). -/
def State.reset : State where
  hasR2H := true
  gammaMode := .exact
  latencies := []
  host := []
  inFlight := []
  rspPort := none
  responses := []
  draws := 0

/-- Faults: none. The CORE raises no exception and every command is answered (60_exceptions.md R260;
93_implementation_defined.md: nothing in the CORE is treated as fault or stuck), so nothing raises one (log 14). -/
inductive Fault
  deriving DecidableEq, Repr

/-- Why a step has no meaning. -/
inductive Refusal
  /-- An instruction of the table that has no meaning yet: raised only by an arm of `exec`, of which there is none. Safe. -/
  | notModelled (mnemonic : String)
  /-- The oldest due command is a reserved encoding (30_encoding.md R71; 60_exceptions.md R263): raised by `step`. Safe: the
  hardware answers any value and goes on, the model stops, as the spec asks of a model (log 9). -/
  | reservedEncoding (why : ReservedReason)
  deriving DecidableEq, Repr

/-- What the ports yield in one step. -/
inductive Fetched
  /-- No command is due: the step only moves the ports on. -/
  | quiet (s : State)
  /-- The oldest command in flight is due and leaves the queue. -/
  | command (w : Command) (s : State)
  deriving DecidableEq, Repr

end Sys2Proof.Machine
end

