-- ==== Sys2Proof/Machine/Ops.lean ====
section
/-! DEFINITION. The named operations on the state: giving a response (00_scope.md R12), accepting a command, reset, and what is
due at the ports in one step (10_state.md R27, R28; 70_reset_and_hazards.md R280). There is no exception to take and none to
return from (60_exceptions.md R260, R268, R269), no flag to compute (10_state.md R23) and no memory to write
(20_memory.md R41). -/

namespace Sys2Proof.Machine

/-- `rsp <- r` (00_scope.md R12): the response of the operation being executed appears at the response port and joins the
observation. -/
def State.respond (s : State) (r : Response) : State :=
  { s with rspPort := some r, responses := s.responses ++ [r] }

/-- `rsp <- any(48)` (60_exceptions.md R262): a response is given in the normal way, its value is a fresh draw (log 6). -/
def State.respondAny (s : State) (i : Instr) : State :=
  { s.respond (Config.anyResponse s.draws i) with draws := s.draws + 1 }

/-- A format S operation: the scalar result, or any value when the operand breaks the caller contract
(30_encoding.md R61, R67; 60_exceptions.md R262). -/
def answerScalar (inRange : Bool) (i : Instr) (y : Nat) (s : State) : Host.Outcome State Fault Refusal :=
  if inRange then .next (s.respond (scalarResponse y)) else .next (s.respondAny i)

/-- A format T operation: the three result channels, or any value when an operand breaks the caller contract
(30_encoding.md R61, R68; 60_exceptions.md R262). -/
def answerTuple (inRange : Bool) (i : Instr) (t : Tuple) (s : State) : Host.Outcome State Fault Refusal :=
  if inRange then .next (s.respond (tupleResponse t)) else .next (s.respondAny i)

/-- The CORE accepts a command word: it joins the queue with its delay (10_state.md R27, R28; log 3). -/
def State.accept (s : State) (w : Command) : State :=
  { s with inFlight := s.inFlight ++ [⟨w, s.latencies.headD 0⟩], latencies := s.latencies.tail }

/-- The reset event (10_state.md R37; 70_reset_and_hazards.md R280): the commands in flight are dropped and get no response,
and `rsp_valid` becomes 0 (log 13). -/
def State.resetEvent (s : State) : State :=
  { s with inFlight := [], rspPort := none }

/-- The host's next event happens; a host whose list has ended leaves the port idle (70_reset_and_hazards.md R287; log 15). -/
def takeEvent (s : State) : State :=
  match s.host with
  | [] => s
  | .idle :: rest => { s with host := rest }
  | .present w :: rest => { s with host := rest }.accept w
  | .reset :: rest => { s with host := rest }.resetEvent

/-- One step of waiting. -/
def PendingCommand.age (p : PendingCommand) : PendingCommand := { p with wait := p.wait - 1 }

/-- The oldest command in flight is answered once its delay is over; only the oldest can be, so responses come in command
order (10_state.md R27, R28). `rsp_valid` is 0 in a step that answers nothing. -/
def oldestDue (s : State) : Fetched :=
  match s.inFlight with
  | [] => .quiet { s with rspPort := none }
  | p :: rest =>
    if p.wait = 0 then .command p.word { s with inFlight := rest.map PendingCommand.age, rspPort := none }
    else .quiet { s with inFlight := (p :: rest).map PendingCommand.age, rspPort := none }

/-- The ports in one step: the host's event, then the oldest command if it is due (LATENCY 0: the command just accepted,
10_state.md R28). -/
def fetch (s : State) : Fetched := oldestDue (takeEvent s)

end Sys2Proof.Machine
end

