-- ==== Sys2Proof/Machine/Gamma.lean ====
section
/-! DEFINITION. The quantised sRGB transfer functions in the spec's integer forms (41_gamma_decode.md R141, R147;
42_gamma_encode.md R161, R163; log 12) and the two readings of `GAMMA16_MODE` (42_gamma_encode.md R168; log 8). -/

namespace Sys2Proof.Machine

/-- Builds a number from its bit `k - 1` down to bit 0, on top of `acc`, keeping a bit when `p` still holds with it: for a `p`
that holds up to some bound and then no more, the largest `y < acc + 2 ^ k` with `p y`, or `acc`. -/
def greatestFrom (p : Nat → Bool) : Nat → Nat → Nat
  | 0, acc => acc
  | k + 1, acc => greatestFrom p k (if p (acc + 2 ^ k) then acc + 2 ^ k else acc)

/-- The inequality of 41_gamma_decode.md R147 at a candidate `y` of the power branch. -/
def decodeReaches (n m out y : Nat) : Bool :=
  decide (y ≤ out) && decide ((2 * y - 1) ^ 5 * (211 * m) ^ 12 ≤ (200 * n + 11 * m) ^ 12 * (2 * out) ^ 5)

/-- `DEC(n, M, OUT)`: gamma to linear, correctly rounded (41_gamma_decode.md R141 in the integer form R147). -/
def gammaDec (n m out : Nat) : Nat :=
  if 100000 * n ≤ 4045 * m then (200 * out * n + 1292 * m) / (2584 * m)
  else greatestFrom (decodeReaches n m out) 16 0

/-- The inequality of 42_gamma_encode.md R163 at a candidate `k` of the power branch. -/
def encodeReaches (n m out k : Nat) : Bool :=
  decide (k ≤ out) && decide ((200 * k + 11 * out - 100) ^ 12 * m ^ 5 ≤ n ^ 5 * (211 * out) ^ 12)

/-- `ENC(n, M, OUT)`: linear to gamma, correctly rounded (42_gamma_encode.md R161 in the integer form R163). -/
def gammaEnc (n m out : Nat) : Nat :=
  if 10000000 * n ≤ 31308 * m then (2584 * out * n + 100 * m) / (200 * m)
  else greatestFrom (encodeReaches n m out) 16 0

/-- Non-decreasing over all 65536 codes, 0 to 0, the largest code to `top`, and at every multiple of 257 the table's entry:
what 42_gamma_encode.md R168 lets be assumed of a configured gamma function. -/
@[irreducible] def gammaLawful (f : Nat → Nat) (top : Nat) (table : Nat → Nat) : Bool :=
  (List.range 65535).all (fun n => decide (f n ≤ f (n + 1))) && decide (f 0 = 0) && decide (f 65535 = top) &&
    (List.range 256).all (fun i => decide (f (257 * i) = table i))

/-- A function given on lanes, as a function on naturals. -/
def onLane {k : Nat} (f : Lane → BitVec k) (n : Nat) : Nat := (f (BitVec.ofNat 16 n)).toNat

/-- `cfg_dec16` (42_gamma_encode.md R168): an arbitrary function with R168's properties. The candidate is free; where it lacks a
property the exact function, which has them all, stands in (log 8). -/
def cfgDec16 (x : Lane) : Nat :=
  if gammaLawful (onLane Config.rawDec16) 65535 (romRead romG8L16) then (Config.rawDec16 x).toNat
  else gammaDec x.toNat 65535 65535

/-- `cfg_enc16` (42_gamma_encode.md R168). R168 names no table for it, so only monotonicity and the two ends are asked. -/
def cfgEnc16 (x : Lane) : Nat :=
  if gammaLawful (onLane Config.rawEnc16) 65535 (fun i => onLane Config.rawEnc16 (257 * i)) then (Config.rawEnc16 x).toNat
  else gammaEnc x.toNat 65535 65535

/-- `cfg_enc16to8` (42_gamma_encode.md R168). -/
def cfgEnc16to8 (x : Lane) : Nat :=
  if gammaLawful (onLane Config.rawEnc16to8) 255 (romRead romL8G8) then (Config.rawEnc16to8 x).toNat
  else gammaEnc x.toNat 65535 255

/-- gamma16 to linear16 under the CORE's `GAMMA16_MODE` (41_gamma_decode.md R146). -/
def gammaDecode16 (m : GammaMode) (x : Lane) : Nat :=
  match m with
  | .exact => gammaDec x.toNat 65535 65535
  | .configured => cfgDec16 x

/-- linear16 to gamma16 under the CORE's `GAMMA16_MODE` (42_gamma_encode.md R166). -/
def gammaEncode16 (m : GammaMode) (x : Lane) : Nat :=
  match m with
  | .exact => gammaEnc x.toNat 65535 65535
  | .configured => cfgEnc16 x

/-- linear16 to gamma8 under the CORE's `GAMMA16_MODE` (42_gamma_encode.md R165). -/
def gammaEncode16to8 (m : GammaMode) (x : Lane) : Nat :=
  match m with
  | .exact => gammaEnc x.toNat 65535 255
  | .configured => cfgEnc16to8 x

end Sys2Proof.Machine
end

