-- ==== Sys2Proof/Machine/GammaDecode.lean ====
section
/-! DEFINITION. Unit GD, gamma decode: the three instructions of 41_gamma_decode.md R144 to R146. -/

namespace Sys2Proof.Machine

/-- `GD.G8.L8` (41_gamma_decode.md R144). -/
def execGdG8L8 (ign : Ignored) (x : Lane) (s : State) : Host.Outcome State Fault Refusal :=
  answerScalar (kindHolds .u8 x) (.gdG8L8 ign x) (romRead romG8L8 x.toNat) s

/-- `GD.G8.L16` (41_gamma_decode.md R145). -/
def execGdG8L16 (ign : Ignored) (x : Lane) (s : State) : Host.Outcome State Fault Refusal :=
  answerScalar (kindHolds .u8 x) (.gdG8L16 ign x) (romRead romG8L16 x.toNat) s

/-- `GD.G16.L16` (41_gamma_decode.md R146). -/
def execGdG16L16 (ign : Ignored) (x : Lane) (s : State) : Host.Outcome State Fault Refusal :=
  answerScalar (kindHolds .u16 x) (.gdG16L16 ign x) (gammaDecode16 s.gammaMode x) s

end Sys2Proof.Machine
end

