-- ==== Sys2Proof/Machine/GammaEncode.lean ====
section
/-! DEFINITION. Unit GE, gamma encode: the three instructions of 42_gamma_encode.md R164 to R166. -/

namespace Sys2Proof.Machine

/-- `GE.L8.G8` (42_gamma_encode.md R164). -/
def execGeL8G8 (ign : Ignored) (x : Lane) (s : State) : Host.Outcome State Fault Refusal :=
  answerScalar (kindHolds .u8 x) (.geL8G8 ign x) (romRead romL8G8 x.toNat) s

/-- `GE.L16.G8` (42_gamma_encode.md R165). -/
def execGeL16G8 (ign : Ignored) (x : Lane) (s : State) : Host.Outcome State Fault Refusal :=
  answerScalar (kindHolds .u16 x) (.geL16G8 ign x) (gammaEncode16to8 s.gammaMode x) s

/-- `GE.L16.G16` (42_gamma_encode.md R166). -/
def execGeL16G16 (ign : Ignored) (x : Lane) (s : State) : Host.Outcome State Fault Refusal :=
  answerScalar (kindHolds .u16 x) (.geL16G16 ign x) (gammaEncode16 s.gammaMode x) s

end Sys2Proof.Machine
end

