-- ==== Sys2Proof/Machine/Arith.lean ====
section
/-! DEFINITION. Rounding on naturals (00_scope.md R9, R10): all quantities are unbounded, `/` is floor division. -/

namespace Sys2Proof.Machine

/-- `rhu(n, d)`, round half up of `n / d` for `d > 0` (00_scope.md R10). -/
def rhu (n d : Nat) : Nat := (n + d / 2) / d

end Sys2Proof.Machine
end

