-- ==== Sys2Proof/Machine/HsvToRgb.lean ====
section
/-! DEFINITION. Unit H2R, HSV to RGB: the hue-sector function of 43_hsv_to_rgb.md R180 to R186 and the eight instructions
R190 to R197. -/

namespace Sys2Proof.Machine

/-- `range_hsv`, step 1 (43_hsv_to_rgb.md R181). -/
def rangeHsv (maxSv s v : Nat) : Nat := v * s / maxSv

/-- `sector`, step 3 (43_hsv_to_rgb.md R183). -/
def hueSector (hWrap h : Nat) : Nat := h * 6 / hWrap

/-- The channel assignment, steps 5 and 6 (43_hsv_to_rgb.md R185): any sector outside 1 to 5 is taken as sector 0
(60_exceptions.md R264). -/
def assignSector (sector top bot part : Nat) : Tuple :=
  match sector with
  | 1 => ⟨top - part, top, bot⟩
  | 2 => ⟨bot, top, bot + part⟩
  | 3 => ⟨bot, top - part, top⟩
  | 4 => ⟨bot + part, bot, top⟩
  | 5 => ⟨top, bot, top - part⟩
  | _ => ⟨top, bot + part, bot⟩

/-- The function H2R on its three parameters (43_hsv_to_rgb.md R186). -/
def hueSectorToRgb (hWrap maxSv maxRgb h s v : Nat) : Tuple :=
  let rangeRgb := rhu (rangeHsv maxSv s v * maxRgb) maxSv
  let top := rhu (v * maxRgb) maxSv
  let bot := top - rangeRgb
  let part := h * 6 % hWrap * rangeRgb / hWrap
  assignSector (hueSector hWrap h) top bot part

/-- H2R with the parameters that HFMT and RFMT fix (43_hsv_to_rgb.md R180; 30_encoding.md R66). -/
def hsvToRgb (f : HsvFormat) (r : RgbFormat) (h s v : Nat) : Tuple :=
  hueSectorToRgb (hWrap f) (maxSv f) (maxRgb r) h s v

/-- `H2R.H888.R8` (43_hsv_to_rgb.md R190). -/
def execH2rH888R8 (h s v : Lane) (st : State) : Host.Outcome State Fault Refusal :=
  answerTuple (hsvHolds .hsv888 h s v) (.h2rH888R8 h s v) (hsvToRgb .hsv888 .rgb8 h.toNat s.toNat v.toNat) st

/-- `H2R.H888.R16` (43_hsv_to_rgb.md R191). -/
def execH2rH888R16 (h s v : Lane) (st : State) : Host.Outcome State Fault Refusal :=
  answerTuple (hsvHolds .hsv888 h s v) (.h2rH888R16 h s v) (hsvToRgb .hsv888 .rgb16 h.toNat s.toNat v.toNat) st

/-- `H2R.HDEC.R8` (43_hsv_to_rgb.md R192). -/
def execH2rHdecR8 (h s v : Lane) (st : State) : Host.Outcome State Fault Refusal :=
  answerTuple (hsvHolds .hsvDecimal h s v) (.h2rHdecR8 h s v) (hsvToRgb .hsvDecimal .rgb8 h.toNat s.toNat v.toNat) st

/-- `H2R.HDEC.R16` (43_hsv_to_rgb.md R193). -/
def execH2rHdecR16 (h s v : Lane) (st : State) : Host.Outcome State Fault Refusal :=
  answerTuple (hsvHolds .hsvDecimal h s v) (.h2rHdecR16 h s v) (hsvToRgb .hsvDecimal .rgb16 h.toNat s.toNat v.toNat) st

/-- `H2R.H32.R8` (43_hsv_to_rgb.md R194). -/
def execH2rH32R8 (h s v : Lane) (st : State) : Host.Outcome State Fault Refusal :=
  answerTuple (hsvHolds .hsv32 h s v) (.h2rH32R8 h s v) (hsvToRgb .hsv32 .rgb8 h.toNat s.toNat v.toNat) st

/-- `H2R.H32.R16` (43_hsv_to_rgb.md R195). -/
def execH2rH32R16 (h s v : Lane) (st : State) : Host.Outcome State Fault Refusal :=
  answerTuple (hsvHolds .hsv32 h s v) (.h2rH32R16 h s v) (hsvToRgb .hsv32 .rgb16 h.toNat s.toNat v.toNat) st

/-- `H2R.H48.R8` (43_hsv_to_rgb.md R196). -/
def execH2rH48R8 (h s v : Lane) (st : State) : Host.Outcome State Fault Refusal :=
  answerTuple (hsvHolds .hsv48 h s v) (.h2rH48R8 h s v) (hsvToRgb .hsv48 .rgb8 h.toNat s.toNat v.toNat) st

/-- `H2R.H48.R16` (43_hsv_to_rgb.md R197). -/
def execH2rH48R16 (h s v : Lane) (st : State) : Host.Outcome State Fault Refusal :=
  answerTuple (hsvHolds .hsv48 h s v) (.h2rH48R16 h s v) (hsvToRgb .hsv48 .rgb16 h.toNat s.toNat v.toNat) st

end Sys2Proof.Machine
end

