-- ==== Sys2Proof/Machine/Rescaler.lean ====
section
/-! DEFINITION. Unit RS, the Range Rescaler: the twelve range pairs (40_range_rescaler.md R100), `to_large` and `to_small`
(R101 to R104), and the 24 instructions (R110 to R133). -/

namespace Sys2Proof.Machine

/-- A range pair: the maxima `S` and `L` of its small and large side, and whether its channel is a hue
(40_range_rescaler.md R100; 00_scope.md R15). -/
structure RangePair where
  small : Nat
  large : Nat
  angle : Bool
  deriving DecidableEq, Repr

/-- 5-bit and 8-bit. -/
def pair0 : RangePair := ⟨31, 255, false⟩
/-- 5-bit and 16-bit. -/
def pair1 : RangePair := ⟨31, 65535, false⟩
/-- 6-bit and 8-bit. -/
def pair2 : RangePair := ⟨63, 255, false⟩
/-- 6-bit and 16-bit. -/
def pair3 : RangePair := ⟨63, 65535, false⟩
/-- 8-bit and 8-bit, the identity. -/
def pair4 : RangePair := ⟨255, 255, false⟩
/-- 8-bit and 16-bit. -/
def pair5 : RangePair := ⟨255, 65535, false⟩
/-- 16-bit and 16-bit, the identity. -/
def pair6 : RangePair := ⟨65535, 65535, false⟩
/-- 7-bit-percent and 8-bit. -/
def pair7 : RangePair := ⟨100, 255, false⟩
/-- 7-bit-percent and 16-bit. -/
def pair8 : RangePair := ⟨100, 65535, false⟩
/-- 8-bit hue and 9-bit-degree. -/
def pair9 : RangePair := ⟨255, 359, true⟩
/-- 9-bit-degree and 16-bit-angle. -/
def pair10 : RangePair := ⟨359, 65535, true⟩
/-- 8-bit hue and 16-bit-angle. -/
def pair11 : RangePair := ⟨255, 65535, true⟩

/-- The twelve pairs in the order of their PAIR numbers (40_range_rescaler.md R100; 30_encoding.md R63). -/
def rangePairs : List RangePair :=
  [pair0, pair1, pair2, pair3, pair4, pair5, pair6, pair7, pair8, pair9, pair10, pair11]

/-- `to_large` (40_range_rescaler.md R101; of an angle pair R103). -/
def toLarge (p : RangePair) (x : Nat) : Nat :=
  if p.angle then rhu (x * (p.large + 1)) (p.small + 1) else rhu (x * p.large) p.small

/-- `to_small` (40_range_rescaler.md R102; of an angle pair R104, where `S + 1` wraps to 0). -/
def toSmall (p : RangePair) (y : Nat) : Nat :=
  if p.angle then rhu (y * (p.small + 1)) (p.large + 1) % (p.small + 1) else rhu (y * p.small) p.large

/-- `RS.U5.U8`: `to_large` of pair 0 (40_range_rescaler.md R110). -/
def execRsU5U8 (ign : Ignored) (x : Lane) (s : State) : Host.Outcome State Fault Refusal :=
  answerScalar (kindHolds .u5 x) (.rsU5U8 ign x) (toLarge pair0 x.toNat) s

/-- `RS.U8.U5`: `to_small` of pair 0 (40_range_rescaler.md R111). -/
def execRsU8U5 (ign : Ignored) (x : Lane) (s : State) : Host.Outcome State Fault Refusal :=
  answerScalar (kindHolds .u8 x) (.rsU8U5 ign x) (toSmall pair0 x.toNat) s

/-- `RS.U5.U16`: `to_large` of pair 1 (40_range_rescaler.md R112). -/
def execRsU5U16 (ign : Ignored) (x : Lane) (s : State) : Host.Outcome State Fault Refusal :=
  answerScalar (kindHolds .u5 x) (.rsU5U16 ign x) (toLarge pair1 x.toNat) s

/-- `RS.U16.U5`: `to_small` of pair 1 (40_range_rescaler.md R113). -/
def execRsU16U5 (ign : Ignored) (x : Lane) (s : State) : Host.Outcome State Fault Refusal :=
  answerScalar (kindHolds .u16 x) (.rsU16U5 ign x) (toSmall pair1 x.toNat) s

/-- `RS.U6.U8`: `to_large` of pair 2 (40_range_rescaler.md R114). -/
def execRsU6U8 (ign : Ignored) (x : Lane) (s : State) : Host.Outcome State Fault Refusal :=
  answerScalar (kindHolds .u6 x) (.rsU6U8 ign x) (toLarge pair2 x.toNat) s

/-- `RS.U8.U6`: `to_small` of pair 2 (40_range_rescaler.md R115). -/
def execRsU8U6 (ign : Ignored) (x : Lane) (s : State) : Host.Outcome State Fault Refusal :=
  answerScalar (kindHolds .u8 x) (.rsU8U6 ign x) (toSmall pair2 x.toNat) s

/-- `RS.U6.U16`: `to_large` of pair 3 (40_range_rescaler.md R116). -/
def execRsU6U16 (ign : Ignored) (x : Lane) (s : State) : Host.Outcome State Fault Refusal :=
  answerScalar (kindHolds .u6 x) (.rsU6U16 ign x) (toLarge pair3 x.toNat) s

/-- `RS.U16.U6`: `to_small` of pair 3 (40_range_rescaler.md R117). -/
def execRsU16U6 (ign : Ignored) (x : Lane) (s : State) : Host.Outcome State Fault Refusal :=
  answerScalar (kindHolds .u16 x) (.rsU16U6 ign x) (toSmall pair3 x.toNat) s

/-- `RS.U8.U8`: `to_large` of pair 4 (40_range_rescaler.md R118). -/
def execRsU8U8 (ign : Ignored) (x : Lane) (s : State) : Host.Outcome State Fault Refusal :=
  answerScalar (kindHolds .u8 x) (.rsU8U8 ign x) (toLarge pair4 x.toNat) s

/-- `RS.U8.U8.I`: `to_small` of pair 4 (40_range_rescaler.md R119). -/
def execRsU8U8I (ign : Ignored) (x : Lane) (s : State) : Host.Outcome State Fault Refusal :=
  answerScalar (kindHolds .u8 x) (.rsU8U8I ign x) (toSmall pair4 x.toNat) s

/-- `RS.U8.U16`: `to_large` of pair 5 (40_range_rescaler.md R120). -/
def execRsU8U16 (ign : Ignored) (x : Lane) (s : State) : Host.Outcome State Fault Refusal :=
  answerScalar (kindHolds .u8 x) (.rsU8U16 ign x) (toLarge pair5 x.toNat) s

/-- `RS.U16.U8`: `to_small` of pair 5 (40_range_rescaler.md R121). -/
def execRsU16U8 (ign : Ignored) (x : Lane) (s : State) : Host.Outcome State Fault Refusal :=
  answerScalar (kindHolds .u16 x) (.rsU16U8 ign x) (toSmall pair5 x.toNat) s

/-- `RS.U16.U16`: `to_large` of pair 6 (40_range_rescaler.md R122). -/
def execRsU16U16 (ign : Ignored) (x : Lane) (s : State) : Host.Outcome State Fault Refusal :=
  answerScalar (kindHolds .u16 x) (.rsU16U16 ign x) (toLarge pair6 x.toNat) s

/-- `RS.U16.U16.I`: `to_small` of pair 6 (40_range_rescaler.md R123). -/
def execRsU16U16I (ign : Ignored) (x : Lane) (s : State) : Host.Outcome State Fault Refusal :=
  answerScalar (kindHolds .u16 x) (.rsU16U16I ign x) (toSmall pair6 x.toNat) s

/-- `RS.PCT.U8`: `to_large` of pair 7 (40_range_rescaler.md R124). -/
def execRsPctU8 (ign : Ignored) (x : Lane) (s : State) : Host.Outcome State Fault Refusal :=
  answerScalar (kindHolds .pct x) (.rsPctU8 ign x) (toLarge pair7 x.toNat) s

/-- `RS.U8.PCT`: `to_small` of pair 7 (40_range_rescaler.md R125). -/
def execRsU8Pct (ign : Ignored) (x : Lane) (s : State) : Host.Outcome State Fault Refusal :=
  answerScalar (kindHolds .u8 x) (.rsU8Pct ign x) (toSmall pair7 x.toNat) s

/-- `RS.PCT.U16`: `to_large` of pair 8 (40_range_rescaler.md R126). -/
def execRsPctU16 (ign : Ignored) (x : Lane) (s : State) : Host.Outcome State Fault Refusal :=
  answerScalar (kindHolds .pct x) (.rsPctU16 ign x) (toLarge pair8 x.toNat) s

/-- `RS.U16.PCT`: `to_small` of pair 8 (40_range_rescaler.md R127). -/
def execRsU16Pct (ign : Ignored) (x : Lane) (s : State) : Host.Outcome State Fault Refusal :=
  answerScalar (kindHolds .u16 x) (.rsU16Pct ign x) (toSmall pair8 x.toNat) s

/-- `RS.A8.DEG`: `to_large` of pair 9 (40_range_rescaler.md R128). -/
def execRsA8Deg (ign : Ignored) (x : Lane) (s : State) : Host.Outcome State Fault Refusal :=
  answerScalar (kindHolds .a8 x) (.rsA8Deg ign x) (toLarge pair9 x.toNat) s

/-- `RS.DEG.A8`: `to_small` of pair 9 (40_range_rescaler.md R129). -/
def execRsDegA8 (ign : Ignored) (x : Lane) (s : State) : Host.Outcome State Fault Refusal :=
  answerScalar (kindHolds .deg x) (.rsDegA8 ign x) (toSmall pair9 x.toNat) s

/-- `RS.DEG.A16`: `to_large` of pair 10 (40_range_rescaler.md R130). -/
def execRsDegA16 (ign : Ignored) (x : Lane) (s : State) : Host.Outcome State Fault Refusal :=
  answerScalar (kindHolds .deg x) (.rsDegA16 ign x) (toLarge pair10 x.toNat) s

/-- `RS.A16.DEG`: `to_small` of pair 10 (40_range_rescaler.md R131). -/
def execRsA16Deg (ign : Ignored) (x : Lane) (s : State) : Host.Outcome State Fault Refusal :=
  answerScalar (kindHolds .a16 x) (.rsA16Deg ign x) (toSmall pair10 x.toNat) s

/-- `RS.A8.A16`: `to_large` of pair 11 (40_range_rescaler.md R132). -/
def execRsA8A16 (ign : Ignored) (x : Lane) (s : State) : Host.Outcome State Fault Refusal :=
  answerScalar (kindHolds .a8 x) (.rsA8A16 ign x) (toLarge pair11 x.toNat) s

/-- `RS.A16.A8`: `to_small` of pair 11 (40_range_rescaler.md R133). -/
def execRsA16A8 (ign : Ignored) (x : Lane) (s : State) : Host.Outcome State Fault Refusal :=
  answerScalar (kindHolds .a16 x) (.rsA16A8 ign x) (toSmall pair11 x.toNat) s

end Sys2Proof.Machine
end

