-- ==== Sys2Proof/Machine/RgbToHsv.lean ====
section
/-! DEFINITION. Unit R2H, RGB to HSV: the function of 44_rgb_to_hsv.md R210 to R216 and the eight instructions R220 to
R227. That the unit may be absent (`HAS_R2H`, R210) is the decoder's matter (30_encoding.md R70; log 7). -/

namespace Sys2Proof.Machine

/-- `term`, the hue before scaling (44_rgb_to_hsv.md R214): the rows are tried in the order written and the first whose
condition holds is used. -/
def hueTerm (r g b top bot range : Nat) : Nat :=
  if r = top ∧ b = bot then g - bot
  else if g = top ∧ b = bot then top - r + range
  else if g = top ∧ r = bot then b - bot + 2 * range
  else if b = top ∧ r = bot then top - g + 3 * range
  else if b = top ∧ g = bot then r - bot + 4 * range
  else top - b + 5 * range

/-- The function R2H on its three parameters (44_rgb_to_hsv.md R216). -/
def rgbToHue (hWrap maxSv maxRgb r g b : Nat) : Tuple :=
  let top := max r (max g b)
  let bot := min r (min g b)
  let range := top - bot
  let v := rhu (top * maxSv) maxRgb
  if range = 0 then ⟨0, 0, v⟩
  else ⟨hueTerm r g b top bot range * hWrap / (range * 6), rhu (range * maxSv) top, v⟩

/-- R2H with the parameters that HFMT and RFMT fix (44_rgb_to_hsv.md R210; 30_encoding.md R66). -/
def rgbToHsv (f : HsvFormat) (w : RgbFormat) (r g b : Nat) : Tuple :=
  rgbToHue (hWrap f) (maxSv f) (maxRgb w) r g b

/-- `R2H.R8.H888` (44_rgb_to_hsv.md R220). -/
def execR2hR8H888 (r g b : Lane) (st : State) : Host.Outcome State Fault Refusal :=
  answerTuple (rgbHolds .rgb8 r g b) (.r2hR8H888 r g b) (rgbToHsv .hsv888 .rgb8 r.toNat g.toNat b.toNat) st

/-- `R2H.R16.H888` (44_rgb_to_hsv.md R221). -/
def execR2hR16H888 (r g b : Lane) (st : State) : Host.Outcome State Fault Refusal :=
  answerTuple (rgbHolds .rgb16 r g b) (.r2hR16H888 r g b) (rgbToHsv .hsv888 .rgb16 r.toNat g.toNat b.toNat) st

/-- `R2H.R8.HDEC` (44_rgb_to_hsv.md R222). -/
def execR2hR8Hdec (r g b : Lane) (st : State) : Host.Outcome State Fault Refusal :=
  answerTuple (rgbHolds .rgb8 r g b) (.r2hR8Hdec r g b) (rgbToHsv .hsvDecimal .rgb8 r.toNat g.toNat b.toNat) st

/-- `R2H.R16.HDEC` (44_rgb_to_hsv.md R223). -/
def execR2hR16Hdec (r g b : Lane) (st : State) : Host.Outcome State Fault Refusal :=
  answerTuple (rgbHolds .rgb16 r g b) (.r2hR16Hdec r g b) (rgbToHsv .hsvDecimal .rgb16 r.toNat g.toNat b.toNat) st

/-- `R2H.R8.H32` (44_rgb_to_hsv.md R224). -/
def execR2hR8H32 (r g b : Lane) (st : State) : Host.Outcome State Fault Refusal :=
  answerTuple (rgbHolds .rgb8 r g b) (.r2hR8H32 r g b) (rgbToHsv .hsv32 .rgb8 r.toNat g.toNat b.toNat) st

/-- `R2H.R16.H32` (44_rgb_to_hsv.md R225). -/
def execR2hR16H32 (r g b : Lane) (st : State) : Host.Outcome State Fault Refusal :=
  answerTuple (rgbHolds .rgb16 r g b) (.r2hR16H32 r g b) (rgbToHsv .hsv32 .rgb16 r.toNat g.toNat b.toNat) st

/-- `R2H.R8.H48` (44_rgb_to_hsv.md R226). -/
def execR2hR8H48 (r g b : Lane) (st : State) : Host.Outcome State Fault Refusal :=
  answerTuple (rgbHolds .rgb8 r g b) (.r2hR8H48 r g b) (rgbToHsv .hsv48 .rgb8 r.toNat g.toNat b.toNat) st

/-- `R2H.R16.H48` (44_rgb_to_hsv.md R227). -/
def execR2hR16H48 (r g b : Lane) (st : State) : Host.Outcome State Fault Refusal :=
  answerTuple (rgbHolds .rgb16 r g b) (.r2hR16H48 r g b) (rgbToHsv .hsv48 .rgb16 r.toNat g.toNat b.toNat) st

end Sys2Proof.Machine
end

