-- ==== Sys2Proof/Machine/Dispatch.lean ====
section
/-! DEFINITION. One arm per instruction: each calls its own meaning. -/

namespace Sys2Proof.Machine

/-- What executing one instruction does (00_scope.md R12: it sets the response and ends the operation). -/
def exec (i : Instr) (s : State) : Host.Outcome State Fault Refusal :=
  match i with
  | .rsU5U8 ign x => Sys2Proof.Machine.execRsU5U8 ign x s
  | .rsU8U5 ign x => Sys2Proof.Machine.execRsU8U5 ign x s
  | .rsU5U16 ign x => Sys2Proof.Machine.execRsU5U16 ign x s
  | .rsU16U5 ign x => Sys2Proof.Machine.execRsU16U5 ign x s
  | .rsU6U8 ign x => Sys2Proof.Machine.execRsU6U8 ign x s
  | .rsU8U6 ign x => Sys2Proof.Machine.execRsU8U6 ign x s
  | .rsU6U16 ign x => Sys2Proof.Machine.execRsU6U16 ign x s
  | .rsU16U6 ign x => Sys2Proof.Machine.execRsU16U6 ign x s
  | .rsU8U8 ign x => Sys2Proof.Machine.execRsU8U8 ign x s
  | .rsU8U8I ign x => Sys2Proof.Machine.execRsU8U8I ign x s
  | .rsU8U16 ign x => Sys2Proof.Machine.execRsU8U16 ign x s
  | .rsU16U8 ign x => Sys2Proof.Machine.execRsU16U8 ign x s
  | .rsU16U16 ign x => Sys2Proof.Machine.execRsU16U16 ign x s
  | .rsU16U16I ign x => Sys2Proof.Machine.execRsU16U16I ign x s
  | .rsPctU8 ign x => Sys2Proof.Machine.execRsPctU8 ign x s
  | .rsU8Pct ign x => Sys2Proof.Machine.execRsU8Pct ign x s
  | .rsPctU16 ign x => Sys2Proof.Machine.execRsPctU16 ign x s
  | .rsU16Pct ign x => Sys2Proof.Machine.execRsU16Pct ign x s
  | .rsA8Deg ign x => Sys2Proof.Machine.execRsA8Deg ign x s
  | .rsDegA8 ign x => Sys2Proof.Machine.execRsDegA8 ign x s
  | .rsDegA16 ign x => Sys2Proof.Machine.execRsDegA16 ign x s
  | .rsA16Deg ign x => Sys2Proof.Machine.execRsA16Deg ign x s
  | .rsA8A16 ign x => Sys2Proof.Machine.execRsA8A16 ign x s
  | .rsA16A8 ign x => Sys2Proof.Machine.execRsA16A8 ign x s
  | .gdG8L8 ign x => Sys2Proof.Machine.execGdG8L8 ign x s
  | .gdG8L16 ign x => Sys2Proof.Machine.execGdG8L16 ign x s
  | .gdG16L16 ign x => Sys2Proof.Machine.execGdG16L16 ign x s
  | .geL8G8 ign x => Sys2Proof.Machine.execGeL8G8 ign x s
  | .geL16G8 ign x => Sys2Proof.Machine.execGeL16G8 ign x s
  | .geL16G16 ign x => Sys2Proof.Machine.execGeL16G16 ign x s
  | .h2rH888R8 h sat v => Sys2Proof.Machine.execH2rH888R8 h sat v s
  | .h2rH888R16 h sat v => Sys2Proof.Machine.execH2rH888R16 h sat v s
  | .h2rHdecR8 h sat v => Sys2Proof.Machine.execH2rHdecR8 h sat v s
  | .h2rHdecR16 h sat v => Sys2Proof.Machine.execH2rHdecR16 h sat v s
  | .h2rH32R8 h sat v => Sys2Proof.Machine.execH2rH32R8 h sat v s
  | .h2rH32R16 h sat v => Sys2Proof.Machine.execH2rH32R16 h sat v s
  | .h2rH48R8 h sat v => Sys2Proof.Machine.execH2rH48R8 h sat v s
  | .h2rH48R16 h sat v => Sys2Proof.Machine.execH2rH48R16 h sat v s
  | .r2hR8H888 r g b => Sys2Proof.Machine.execR2hR8H888 r g b s
  | .r2hR16H888 r g b => Sys2Proof.Machine.execR2hR16H888 r g b s
  | .r2hR8Hdec r g b => Sys2Proof.Machine.execR2hR8Hdec r g b s
  | .r2hR16Hdec r g b => Sys2Proof.Machine.execR2hR16Hdec r g b s
  | .r2hR8H32 r g b => Sys2Proof.Machine.execR2hR8H32 r g b s
  | .r2hR16H32 r g b => Sys2Proof.Machine.execR2hR16H32 r g b s
  | .r2hR8H48 r g b => Sys2Proof.Machine.execR2hR8H48 r g b s
  | .r2hR16H48 r g b => Sys2Proof.Machine.execR2hR16H48 r g b s

end Sys2Proof.Machine
end

