-- ==== Sys2Proof/Machine/Step.lean ====
section
/-! DEFINITION. One step: the host's event, then the command that is due, if any, decoded and executed (log 1). -/

namespace Sys2Proof.Machine

/-- A due command word: decoded (30_encoding.md R70) and executed, or refused as reserved (R71; log 9). -/
def runWord (w : Command) (s : State) : Host.Outcome State Fault Refusal :=
  match decode s.hasR2H w with
  | .ok i => exec i s
  | .error why => .refused (.reservedEncoding why)

/-- One step of the machine: at most one event of the host and at most one response. -/
def step (s : State) : Host.Outcome State Fault Refusal :=
  match fetch s with
  | .quiet t => .next t
  | .command w t => runWord w t

/-- `s` with the word presented next, nothing in flight before it and no delay of its own, so that the next step runs it: the
load of a program by the host (log 2). The delays of the commands after it stay as they are. -/
def State.withFetchWord (s : State) (nbits w : Nat) : State :=
  { s with
    host := .present (BitVec.ofNat 64 (w % 2 ^ nbits)) :: s.host
    inFlight := []
    latencies := 0 :: s.latencies }

end Sys2Proof.Machine
end

