-- ==== Sys2Proof/Machine/Compositions.lean ====
section
/-! DEFINITION. Whole-representation conversions `CVT.<from>.<to>` (45_compositions.md): short host-side programs of CORE
commands, not instructions (R241), by the routes of R243 to R247. Out of the CORE's scope (00_scope.md R4) and modelled all the
same (log 16). -/

namespace Sys2Proof.Machine

/-- The nine representations (10_state.md R29). -/
inductive Rep
  | p565 | rgb888 | rgb16 | lin888 | lin16 | hsv888 | hsvDecimal | hsv32 | hsv48
  deriving DecidableEq, Repr

/-- A colour: three channels, the first-named one first (30_encoding.md R68). The host holds a PackedRGB565 pixel unpacked
(10_state.md R29). -/
structure Colour where
  c2 : Lane
  c1 : Lane
  c0 : Lane
  deriving DecidableEq, Repr

/-- One step of a conversion: a scalar command for each channel, or one tuple command (45_compositions.md R242). -/
inductive Stage
  | channels (a b c : Lane → Instr)
  | tuple (t : Lane → Lane → Lane → Instr)

/-- The same scalar command on all three channels. -/
def sameChannels (a : Lane → Instr) : Stage := .channels a a a

/-- Hue by one command, saturation and value by another (45_compositions.md R245). -/
def hueAndPair (h sv : Lane → Instr) : Stage := .channels h sv sv

/-- Red and blue by one command, green by another (45_compositions.md R243). -/
def packedChannels (rb g : Lane → Instr) : Stage := .channels rb g rb

/-- The 42 conversions that are direct transforms (45_compositions.md R242 to R247). DESIGN CHOICE (log 16): an identity
command that R245 lets be omitted is issued, and the ignored bits of every scalar command are 0. -/
def directStage (from_ to_ : Rep) : Option Stage :=
  match from_, to_ with
  | .p565, .rgb888 => some (packedChannels (.rsU5U8 0) (.rsU6U8 0))
  | .rgb888, .p565 => some (packedChannels (.rsU8U5 0) (.rsU8U6 0))
  | .p565, .rgb16 => some (packedChannels (.rsU5U16 0) (.rsU6U16 0))
  | .rgb16, .p565 => some (packedChannels (.rsU16U5 0) (.rsU16U6 0))
  | .rgb888, .rgb16 => some (sameChannels (.rsU8U16 0))
  | .lin888, .lin16 => some (sameChannels (.rsU8U16 0))
  | .rgb16, .rgb888 => some (sameChannels (.rsU16U8 0))
  | .lin16, .lin888 => some (sameChannels (.rsU16U8 0))
  | .rgb888, .lin888 => some (sameChannels (.gdG8L8 0))
  | .rgb888, .lin16 => some (sameChannels (.gdG8L16 0))
  | .rgb16, .lin16 => some (sameChannels (.gdG16L16 0))
  | .lin888, .rgb888 => some (sameChannels (.geL8G8 0))
  | .lin16, .rgb888 => some (sameChannels (.geL16G8 0))
  | .lin16, .rgb16 => some (sameChannels (.geL16G16 0))
  | .hsv888, .hsvDecimal => some (hueAndPair (.rsA8Deg 0) (.rsU8Pct 0))
  | .hsvDecimal, .hsv888 => some (hueAndPair (.rsDegA8 0) (.rsPctU8 0))
  | .hsv888, .hsv32 => some (hueAndPair (.rsA8A16 0) (.rsU8U8 0))
  | .hsv32, .hsv888 => some (hueAndPair (.rsA16A8 0) (.rsU8U8I 0))
  | .hsv888, .hsv48 => some (hueAndPair (.rsA8A16 0) (.rsU8U16 0))
  | .hsv48, .hsv888 => some (hueAndPair (.rsA16A8 0) (.rsU16U8 0))
  | .hsvDecimal, .hsv32 => some (hueAndPair (.rsDegA16 0) (.rsPctU8 0))
  | .hsv32, .hsvDecimal => some (hueAndPair (.rsA16Deg 0) (.rsU8Pct 0))
  | .hsvDecimal, .hsv48 => some (hueAndPair (.rsDegA16 0) (.rsPctU16 0))
  | .hsv48, .hsvDecimal => some (hueAndPair (.rsA16Deg 0) (.rsU16Pct 0))
  | .hsv32, .hsv48 => some (hueAndPair (.rsU16U16 0) (.rsU8U16 0))
  | .hsv48, .hsv32 => some (hueAndPair (.rsU16U16I 0) (.rsU16U8 0))
  | .hsv888, .rgb888 => some (.tuple .h2rH888R8)
  | .hsv888, .rgb16 => some (.tuple .h2rH888R16)
  | .hsvDecimal, .rgb888 => some (.tuple .h2rHdecR8)
  | .hsvDecimal, .rgb16 => some (.tuple .h2rHdecR16)
  | .hsv32, .rgb888 => some (.tuple .h2rH32R8)
  | .hsv32, .rgb16 => some (.tuple .h2rH32R16)
  | .hsv48, .rgb888 => some (.tuple .h2rH48R8)
  | .hsv48, .rgb16 => some (.tuple .h2rH48R16)
  | .rgb888, .hsv888 => some (.tuple .r2hR8H888)
  | .rgb16, .hsv888 => some (.tuple .r2hR16H888)
  | .rgb888, .hsvDecimal => some (.tuple .r2hR8Hdec)
  | .rgb16, .hsvDecimal => some (.tuple .r2hR16Hdec)
  | .rgb888, .hsv32 => some (.tuple .r2hR8H32)
  | .rgb16, .hsv32 => some (.tuple .r2hR16H32)
  | .rgb888, .hsv48 => some (.tuple .r2hR8H48)
  | .rgb16, .hsv48 => some (.tuple .r2hR16H48)
  | _, _ => none

/-- The intermediate of a composed conversion (45_compositions.md R244, R246). -/
def intermediate (from_ to_ : Rep) : Rep :=
  match from_, to_ with
  | .rgb16, .lin888 => .lin16
  | .lin888, .rgb16 => .lin16
  | .p565, .lin888 => .rgb888
  | .lin888, _ => .rgb888
  | .p565, _ => .rgb16
  | _, .lin888 => .rgb888
  | _, _ => .rgb16

/-- Whether a stage needs the R2H unit: the representations an R2H command goes between. -/
def needsR2H (from_ to_ : Rep) : Bool :=
  decide (from_ ∈ [Rep.p565, .rgb888, .rgb16, .lin888, .lin16]) && decide (to_ ∈ [Rep.hsv888, .hsvDecimal, .hsv32, .hsv48])

/-- The matrix of 45_compositions.md R247: the stages of `CVT.<from>.<to>`; none from a representation to itself, and none
into an HSV representation from RGB in a CORE without the R2H unit. -/
def route (hasR2H : Bool) (from_ to_ : Rep) : Option (List Stage) :=
  if from_ = to_ ∨ (needsR2H from_ to_ = true ∧ hasR2H = false) then none
  else
    match directStage from_ to_ with
    | some d => some [d]
    | none =>
      match directStage from_ (intermediate from_ to_), directStage (intermediate from_ to_) to_ with
      | some a, some b => some [a, b]
      | _, _ => none

/-- The host issues one command and reads its response (20_memory.md R47 (c)). -/
def issue (i : Instr) (s : State) : Option (Response × State) :=
  match exec i s with
  | .next t => t.rspPort.map (fun r => (r, t))
  | .fault _ => none
  | .refused _ => none

/-- One stage: three scalar commands or one tuple command; the host forwards the response lanes (45_compositions.md R241).
DESIGN CHOICE (log 16): the three commands are issued highest lane first, `c2`, `c1`, `c0`, where R241 allows any order; the
order shows in the recorded responses and draws of the state, and not in the resulting colour of in-range channels. -/
def runStage (g : Stage) (c : Colour) (s : State) : Option (Colour × State) :=
  match g with
  | .channels fa fb fc => do
    let (ra, s1) ← issue (fa c.c2) s
    let (rb, s2) ← issue (fb c.c1) s1
    let (rc, s3) ← issue (fc c.c0) s2
    return (⟨rspLane0 ra, rspLane0 rb, rspLane0 rc⟩, s3)
  | .tuple f => do
    let (r, s1) ← issue (f c.c2 c.c1 c.c0) s
    return (⟨rspLane2 r, rspLane1 r, rspLane0 r⟩, s1)

/-- The stages of a conversion, one after another. -/
def runStages (gs : List Stage) (c : Colour) (s : State) : Option (Colour × State) :=
  match gs with
  | [] => some (c, s)
  | g :: rest => do
    let (c1, s1) ← runStage g c s
    runStages rest c1 s1

/-- `CVT.<from>.<to>` (45_compositions.md R247). -/
def convert (from_ to_ : Rep) (c : Colour) (s : State) : Option (Colour × State) := do
  let gs ← route s.hasR2H from_ to_
  runStages gs c s

end Sys2Proof.Machine
end

