-- ==== Sys2Proof/WellFormed.lean ====
section
/-! DEFINITION. Well-formed instructions: every operand channel inside the nominal range of its kind, the caller contract of
70_reset_and_hazards.md R283 (10_state.md R30; 30_encoding.md R67, R68; the list of 60_exceptions.md R262). Every bit
pattern of the operands can be encoded, so encoding asks for nothing more. -/

namespace Sys2Proof

open Machine in
/-- The caller contract of one instruction (60_exceptions.md R262): every operand channel in its nominal range. -/
def Instr.wellFormed : Instr → Bool
  | .rsU5U8 _ x => kindHolds .u5 x
  | .rsU8U5 _ x => kindHolds .u8 x
  | .rsU5U16 _ x => kindHolds .u5 x
  | .rsU16U5 _ x => kindHolds .u16 x
  | .rsU6U8 _ x => kindHolds .u6 x
  | .rsU8U6 _ x => kindHolds .u8 x
  | .rsU6U16 _ x => kindHolds .u6 x
  | .rsU16U6 _ x => kindHolds .u16 x
  | .rsU8U8 _ x => kindHolds .u8 x
  | .rsU8U8I _ x => kindHolds .u8 x
  | .rsU8U16 _ x => kindHolds .u8 x
  | .rsU16U8 _ x => kindHolds .u16 x
  | .rsU16U16 _ x => kindHolds .u16 x
  | .rsU16U16I _ x => kindHolds .u16 x
  | .rsPctU8 _ x => kindHolds .pct x
  | .rsU8Pct _ x => kindHolds .u8 x
  | .rsPctU16 _ x => kindHolds .pct x
  | .rsU16Pct _ x => kindHolds .u16 x
  | .rsA8Deg _ x => kindHolds .a8 x
  | .rsDegA8 _ x => kindHolds .deg x
  | .rsDegA16 _ x => kindHolds .deg x
  | .rsA16Deg _ x => kindHolds .a16 x
  | .rsA8A16 _ x => kindHolds .a8 x
  | .rsA16A8 _ x => kindHolds .a16 x
  | .gdG8L8 _ x => kindHolds .u8 x
  | .gdG8L16 _ x => kindHolds .u8 x
  | .gdG16L16 _ x => kindHolds .u16 x
  | .geL8G8 _ x => kindHolds .u8 x
  | .geL16G8 _ x => kindHolds .u16 x
  | .geL16G16 _ x => kindHolds .u16 x
  | .h2rH888R8 h s v => hsvHolds .hsv888 h s v
  | .h2rH888R16 h s v => hsvHolds .hsv888 h s v
  | .h2rHdecR8 h s v => hsvHolds .hsvDecimal h s v
  | .h2rHdecR16 h s v => hsvHolds .hsvDecimal h s v
  | .h2rH32R8 h s v => hsvHolds .hsv32 h s v
  | .h2rH32R16 h s v => hsvHolds .hsv32 h s v
  | .h2rH48R8 h s v => hsvHolds .hsv48 h s v
  | .h2rH48R16 h s v => hsvHolds .hsv48 h s v
  | .r2hR8H888 r g b => rgbHolds .rgb8 r g b
  | .r2hR16H888 r g b => rgbHolds .rgb16 r g b
  | .r2hR8Hdec r g b => rgbHolds .rgb8 r g b
  | .r2hR16Hdec r g b => rgbHolds .rgb16 r g b
  | .r2hR8H32 r g b => rgbHolds .rgb8 r g b
  | .r2hR16H32 r g b => rgbHolds .rgb16 r g b
  | .r2hR8H48 r g b => rgbHolds .rgb8 r g b
  | .r2hR16H48 r g b => rgbHolds .rgb16 r g b

/-- The caller contract as a proposition. -/
abbrev Instr.WellFormed (i : Instr) : Prop := i.wellFormed = true

end Sys2Proof
end

