-- ==== Sys2Proof/Safety.lean ====
section
/-! DEFINITION. What counts as a safe run: the host keeps the caller contract (70_reset_and_hazards.md R283). -/

namespace Sys2Proof.Machine

/-- A command word the host may present (70_reset_and_hazards.md R283): an opcode of the map, operands in their nominal
ranges. -/
def contractWord (hasR2H : Bool) (w : Command) : Bool :=
  match decode hasR2H w with
  | .ok i => i.wellFormed
  | .error _ => false

/-- The host keeps the contract in this event. -/
def contractEvent (hasR2H : Bool) : HostEvent → Bool
  | .present w => contractWord hasR2H w
  | .idle => true
  | .reset => true

/-- Every command in flight and every command still to come keeps the contract. -/
def State.contractKept (s : State) : Bool :=
  s.inFlight.all (fun p => contractWord s.hasR2H p.word) && s.host.all (contractEvent s.hasR2H)

/-- The response port shows the response given last: an invariant of the two places a response is written to. -/
def State.portShowsLast (s : State) : Bool :=
  match s.rspPort with
  | none => true
  | some r => s.responses.getLast? == some r

end Sys2Proof.Machine
end

