-- ==== Sys2Proof/Certificates/Slice0/Obligations.lean ====
section
/-! DEFINITION. The statements for the provers. The names of Sys2Proof.Claims say what a rule of the spec asks, in the rule's own
numbers. -/

namespace Sys2Proof.Claims

open Machine

/-- The next state of an operation within the contract: its response, and nothing else. -/
def answered (s : State) (r : Response) : State := { s with rspPort := some r, responses := s.responses ++ [r] }

/-- The next state of a contract violation: some response, one draw (the counter is the model's own, log 6), and nothing
else (60_exceptions.md R262). -/
def violated (s : State) (r : Response) : State :=
  { s with rspPort := some r, responses := s.responses ++ [r], draws := s.draws + 1 }

/-- What a rule of a format S instruction says: its encoding, and its result on operands up to `maxIn` (at most `maxOut`,
zero-extended). -/
def ScalarRule (opc : Opcode) (ctor : Ignored → Lane → Instr) (maxIn maxOut : Nat) (f : Nat → Nat) : Prop :=
  (∀ (hasR2H : Bool) (w : Command), w.extractLsb' 48 16 = opc →
    decode hasR2H w = .ok (ctor (w.extractLsb' 16 32) (w.extractLsb' 0 16))) ∧
  (∀ (s : State) (ign : Ignored) (x : Lane), x.toNat ≤ maxIn →
    f x.toNat ≤ maxOut ∧ exec (ctor ign x) s = .next (answered s (BitVec.ofNat 48 (f x.toNat))))

/-- Above `maxIn` the response is unspecified: there is one, and nothing else changes (60_exceptions.md R262). Said of the
kinds narrower than 16 bits only; no operand is above the others. -/
def ScalarOutOfRange (ctor : Ignored → Lane → Instr) (maxIn : Nat) : Prop :=
  ∀ (s : State) (ign : Ignored) (x : Lane), maxIn < x.toNat → ∃ r, exec (ctor ign x) s = .next (violated s r)

/-- What a rule of a format T instruction says: its encoding (with the R2H unit present if `r2h`), and its result on valid
operands (`rsp <- (c2 << 32) | (c1 << 16) | c0`, each channel within `maxOut`). -/
def TupleRule (opc : Opcode) (ctor : Lane → Lane → Lane → Instr) (r2h : Bool) (valid : Nat → Nat → Nat → Prop)
    (maxOut : Nat × Nat × Nat) (f : Nat → Nat → Nat → Nat × Nat × Nat) : Prop :=
  (∀ (hasR2H : Bool) (w : Command), w.extractLsb' 48 16 = opc → (r2h = true → hasR2H = true) →
    decode hasR2H w = .ok (ctor (w.extractLsb' 32 16) (w.extractLsb' 16 16) (w.extractLsb' 0 16))) ∧
  (∀ (s : State) (a b c : Lane), valid a.toNat b.toNat c.toNat →
    let t := f a.toNat b.toNat c.toNat
    t.1 ≤ maxOut.1 ∧ t.2.1 ≤ maxOut.2.1 ∧ t.2.2 ≤ maxOut.2.2 ∧
    exec (ctor a b c) s = .next (answered s (BitVec.ofNat 48 (t.1 * 2 ^ 32 + t.2.1 * 2 ^ 16 + t.2.2))))

/-- Without the R2H unit the opcode is reserved (44_rgb_to_hsv.md R210). -/
def ReservedWithoutUnit (opc : Opcode) : Prop :=
  ∀ w : Command, w.extractLsb' 48 16 = opc → ∃ why, decode false w = .error why

/-- On operands that are not valid the response is unspecified: there is one, and nothing else changes
(60_exceptions.md R262). Said only of the formats that some operand violates. -/
def TupleOutOfRange (ctor : Lane → Lane → Lane → Instr) (valid : Nat → Nat → Nat → Prop) : Prop :=
  ∀ (s : State) (a b c : Lane), ¬ valid a.toNat b.toNat c.toNat → ∃ r, exec (ctor a b c) s = .next (violated s r)

/-- The listed corner values. -/
def Takes (f : Nat → Nat) (values : List (Nat × Nat)) : Prop := ∀ p ∈ values, f p.1 = p.2

/-- The listed corner values of a tuple function. -/
def TakesTuple (f : Nat → Nat → Nat → Nat × Nat × Nat) (values : List ((Nat × Nat × Nat) × (Nat × Nat × Nat))) : Prop :=
  ∀ p ∈ values, f p.1.1 p.1.2.1 p.1.2.2 = p.2

/-- The result is first `y` at `x`. -/
def FirstGives (f : Nat → Nat) (y x : Nat) : Prop := f x = y ∧ ∀ z, z < x → f z ≠ y

/-- The largest intermediate on operands up to `maxIn` is `peak`, which needs `bits` bits. -/
def Peak (num : Nat → Nat) (maxIn peak bits : Nat) : Prop :=
  num maxIn = peak ∧ (∀ x, x ≤ maxIn → num x ≤ peak) ∧ 2 ^ (bits - 1) ≤ peak ∧ peak < 2 ^ bits

/-- Distance between two codes of the large side; around the circle for a hue (40_range_rescaler.md R103, R105). -/
def channelDistance (p : RangePair) (a b : Nat) : Nat :=
  let plain := max a b - min a b
  if p.angle then min plain (p.large + 1 - plain) else plain

/-- 43_hsv_to_rgb.md R186, transcribed. -/
def hsvFormula (hw msv mrgb h s v : Nat) : Nat × Nat × Nat :=
  let range := ((v * s) / msv * mrgb + msv / 2) / msv
  let top := (v * mrgb + msv / 2) / msv
  let bot := top - range
  let sector := (h * 6) / hw
  let part := (((h * 6) % hw) * range) / hw
  if sector = 1 then (top - part, top, bot)
  else if sector = 2 then (bot, top, bot + part)
  else if sector = 3 then (bot, top - part, top)
  else if sector = 4 then (bot + part, bot, top)
  else if sector = 5 then (top, bot, top - part)
  else (top, bot + part, bot)

/-- 44_rgb_to_hsv.md R216, transcribed. -/
def rgbFormula (hw msv mrgb r g b : Nat) : Nat × Nat × Nat :=
  let top := max r (max g b)
  let bot := min r (min g b)
  let range := top - bot
  let v := (top * msv + mrgb / 2) / mrgb
  if range = 0 then (0, 0, v)
  else
    let s := (range * msv + top / 2) / top
    let term :=
      if r = top ∧ b = bot then g - bot
      else if g = top ∧ b = bot then top - r + range
      else if g = top ∧ r = bot then b - bot + 2 * range
      else if b = top ∧ r = bot then top - g + 3 * range
      else if b = top ∧ g = bot then r - bot + 4 * range
      else top - b + 5 * range
    ((term * hw) / (range * 6), s, v)

/-- `dec`, the real decode function (41_gamma_decode.md R140). -/
noncomputable def srgbDecode (v : ℝ) : ℝ :=
  if v ≤ 0.04045 then v / 12.92 else ((v + 0.055) / 1.055) ^ (2.4 : ℝ)

/-- `enc`, the real encode function (42_gamma_encode.md R160). -/
noncomputable def srgbEncode (v : ℝ) : ℝ :=
  if v ≤ 0.0031308 then 12.92 * v else 1.055 * v ^ ((1 : ℝ) / 2.4) - 0.055

/-- Non-decreasing, 0 to 0 and the largest code to `top` (42_gamma_encode.md R168). -/
def MonotoneOnto (f : Lane → Nat) (top : Nat) : Prop :=
  (∀ a b, a ≤ b → f a ≤ f b) ∧ f 0 = 0 ∧ f 65535 = top

/-- A format S word as an instruction: the ignored bits and the operand (30_encoding.md R61, R67). -/
def scalarWord (mk : Ignored → Lane → Instr) (w : Command) : Instr := mk (w.extractLsb' 16 32) (w.extractLsb' 0 16)

/-- A format T word as an instruction: lanes 2, 1 and 0 (30_encoding.md R61, R68). -/
def tupleWord (mk : Lane → Lane → Lane → Instr) (w : Command) : Instr :=
  mk (w.extractLsb' 32 16) (w.extractLsb' 16 16) (w.extractLsb' 0 16)

/-- The opcode map of 30_encoding.md R69, transcribed: each opcode and the instruction of a word that carries it. -/
def opcodeRows : List (Opcode × (Command → Instr)) :=
  [(0x1000#16, scalarWord .rsU5U8),
   (0x1001#16, scalarWord .rsU8U5),
   (0x1100#16, scalarWord .rsU5U16),
   (0x1101#16, scalarWord .rsU16U5),
   (0x1200#16, scalarWord .rsU6U8),
   (0x1201#16, scalarWord .rsU8U6),
   (0x1300#16, scalarWord .rsU6U16),
   (0x1301#16, scalarWord .rsU16U6),
   (0x1400#16, scalarWord .rsU8U8),
   (0x1401#16, scalarWord .rsU8U8I),
   (0x1500#16, scalarWord .rsU8U16),
   (0x1501#16, scalarWord .rsU16U8),
   (0x1600#16, scalarWord .rsU16U16),
   (0x1601#16, scalarWord .rsU16U16I),
   (0x1700#16, scalarWord .rsPctU8),
   (0x1701#16, scalarWord .rsU8Pct)] ++
  [(0x1800#16, scalarWord .rsPctU16),
   (0x1801#16, scalarWord .rsU16Pct),
   (0x1900#16, scalarWord .rsA8Deg),
   (0x1901#16, scalarWord .rsDegA8),
   (0x1A00#16, scalarWord .rsDegA16),
   (0x1A01#16, scalarWord .rsA16Deg),
   (0x1B00#16, scalarWord .rsA8A16),
   (0x1B01#16, scalarWord .rsA16A8),
   (0x2000#16, scalarWord .gdG8L8),
   (0x2100#16, scalarWord .gdG8L16),
   (0x2200#16, scalarWord .gdG16L16),
   (0x3000#16, scalarWord .geL8G8),
   (0x3100#16, scalarWord .geL16G8),
   (0x3200#16, scalarWord .geL16G16),
   (0x4000#16, tupleWord .h2rH888R8),
   (0x4001#16, tupleWord .h2rH888R16)] ++
  [(0x4100#16, tupleWord .h2rHdecR8),
   (0x4101#16, tupleWord .h2rHdecR16),
   (0x4200#16, tupleWord .h2rH32R8),
   (0x4201#16, tupleWord .h2rH32R16),
   (0x4300#16, tupleWord .h2rH48R8),
   (0x4301#16, tupleWord .h2rH48R16),
   (0x5000#16, tupleWord .r2hR8H888),
   (0x5001#16, tupleWord .r2hR16H888),
   (0x5100#16, tupleWord .r2hR8Hdec),
   (0x5101#16, tupleWord .r2hR16Hdec),
   (0x5200#16, tupleWord .r2hR8H32),
   (0x5201#16, tupleWord .r2hR16H32),
   (0x5300#16, tupleWord .r2hR8H48),
   (0x5301#16, tupleWord .r2hR16H48)]

/-- The operands 60_exceptions.md R262 lists as violating the caller contract, transcribed. -/
def Violates : Instr → Prop
  | .rsU5U8 _ x => 31 < x.toNat
  | .rsU8U5 _ x => 255 < x.toNat
  | .rsU5U16 _ x => 31 < x.toNat
  | .rsU16U5 _ _ => False
  | .rsU6U8 _ x => 63 < x.toNat
  | .rsU8U6 _ x => 255 < x.toNat
  | .rsU6U16 _ x => 63 < x.toNat
  | .rsU16U6 _ _ => False
  | .rsU8U8 _ x => 255 < x.toNat
  | .rsU8U8I _ x => 255 < x.toNat
  | .rsU8U16 _ x => 255 < x.toNat
  | .rsU16U8 _ _ => False
  | .rsU16U16 _ _ => False
  | .rsU16U16I _ _ => False
  | .rsPctU8 _ x => 100 < x.toNat
  | .rsU8Pct _ x => 255 < x.toNat
  | .rsPctU16 _ x => 100 < x.toNat
  | .rsU16Pct _ _ => False
  | .rsA8Deg _ x => 255 < x.toNat
  | .rsDegA8 _ x => 359 < x.toNat
  | .rsDegA16 _ x => 359 < x.toNat
  | .rsA16Deg _ _ => False
  | .rsA8A16 _ x => 255 < x.toNat
  | .rsA16A8 _ _ => False
  | .gdG8L8 _ x => 255 < x.toNat
  | .gdG8L16 _ x => 255 < x.toNat
  | .gdG16L16 _ _ => False
  | .geL8G8 _ x => 255 < x.toNat
  | .geL16G8 _ _ => False
  | .geL16G16 _ _ => False
  | .h2rH888R8 h s v => 255 < h.toNat ∨ 255 < s.toNat ∨ 255 < v.toNat
  | .h2rH888R16 h s v => 255 < h.toNat ∨ 255 < s.toNat ∨ 255 < v.toNat
  | .h2rHdecR8 h s v => 359 < h.toNat ∨ 100 < s.toNat ∨ 100 < v.toNat
  | .h2rHdecR16 h s v => 359 < h.toNat ∨ 100 < s.toNat ∨ 100 < v.toNat
  | .h2rH32R8 _ s v => 255 < s.toNat ∨ 255 < v.toNat
  | .h2rH32R16 _ s v => 255 < s.toNat ∨ 255 < v.toNat
  | .h2rH48R8 _ _ _ => False
  | .h2rH48R16 _ _ _ => False
  | .r2hR8H888 r g b => 255 < r.toNat ∨ 255 < g.toNat ∨ 255 < b.toNat
  | .r2hR16H888 _ _ _ => False
  | .r2hR8Hdec r g b => 255 < r.toNat ∨ 255 < g.toNat ∨ 255 < b.toNat
  | .r2hR16Hdec _ _ _ => False
  | .r2hR8H32 r g b => 255 < r.toNat ∨ 255 < g.toNat ∨ 255 < b.toNat
  | .r2hR16H32 _ _ _ => False
  | .r2hR8H48 r g b => 255 < r.toNat ∨ 255 < g.toNat ∨ 255 < b.toNat
  | .r2hR16H48 _ _ _ => False

/-- The 30 instructions of format S. -/
def scalarInstrs : List (Ignored → Lane → Instr) :=
  [Instr.rsU5U8, .rsU8U5, .rsU5U16, .rsU16U5, .rsU6U8, .rsU8U6, .rsU6U16, .rsU16U6,
   .rsU8U8, .rsU8U8I, .rsU8U16, .rsU16U8, .rsU16U16, .rsU16U16I, .rsPctU8, .rsU8Pct,
   .rsPctU16, .rsU16Pct, .rsA8Deg, .rsDegA8, .rsDegA16, .rsA16Deg, .rsA8A16, .rsA16A8,
   .gdG8L8, .gdG8L16, .gdG16L16, .geL8G8, .geL16G8, .geL16G16]

/-- The eight H2R instructions with their formats. -/
def hsvInstrs : List ((Lane → Lane → Lane → Instr) × HsvFormat × RgbFormat) :=
  [(Instr.h2rH888R8, HsvFormat.hsv888, RgbFormat.rgb8),
   (.h2rH888R16, .hsv888, .rgb16),
   (.h2rHdecR8, .hsvDecimal, .rgb8),
   (.h2rHdecR16, .hsvDecimal, .rgb16),
   (.h2rH32R8, .hsv32, .rgb8),
   (.h2rH32R16, .hsv32, .rgb16),
   (.h2rH48R8, .hsv48, .rgb8),
   (.h2rH48R16, .hsv48, .rgb16)]

/-- The eight R2H instructions with their formats. -/
def rgbInstrs : List ((Lane → Lane → Lane → Instr) × HsvFormat × RgbFormat) :=
  [(Instr.r2hR8H888, HsvFormat.hsv888, RgbFormat.rgb8),
   (.r2hR16H888, .hsv888, .rgb16),
   (.r2hR8Hdec, .hsvDecimal, .rgb8),
   (.r2hR16Hdec, .hsvDecimal, .rgb16),
   (.r2hR8H32, .hsv32, .rgb8),
   (.r2hR16H32, .hsv32, .rgb16),
   (.r2hR8H48, .hsv48, .rgb8),
   (.r2hR16H48, .hsv48, .rgb16)]

/-- The response the CORE of this state gives to a command word (0 for a word that is none: never used so). -/
def commandResponse (s : State) (w : Command) : Response :=
  match decode s.hasR2H w with
  | .ok i => (match exec i s with | .next t => t.rspPort.getD 0 | .fault _ => 0 | .refused _ => 0)
  | .error _ => 0

/-- The word an event presents. -/
def presentedWord : HostEvent → Option Command
  | .present w => some w
  | .idle => none
  | .reset => none

/-- Black in a representation. -/
def blackOf (_ : Rep) : Colour := ⟨0, 0, 0⟩

/-- White in a representation (95_test_vectors.md section 5.1). -/
def whiteOf : Rep → Colour
  | .p565 => ⟨31, 63, 31⟩
  | .rgb888 => ⟨255, 255, 255⟩
  | .rgb16 => ⟨65535, 65535, 65535⟩
  | .lin888 => ⟨255, 255, 255⟩
  | .lin16 => ⟨65535, 65535, 65535⟩
  | .hsv888 => ⟨0, 0, 255⟩
  | .hsvDecimal => ⟨0, 0, 100⟩
  | .hsv32 => ⟨0, 0, 255⟩
  | .hsv48 => ⟨0, 0, 65535⟩

/-- The nine representations (10_state.md R29). -/
def allReps : List Rep := [.p565, .rgb888, .rgb16, .lin888, .lin16, .hsv888, .hsvDecimal, .hsv32, .hsv48]

end Sys2Proof.Claims

open Sys2Proof Sys2Proof.Machine Sys2Proof.Claims

/-- Decode and encode agree: decoding the word of any instruction gives it back. From 30_encoding.md section 1;
30_encoding.md section 3. That an instruction of format S carries cmd[47:16], and the encoder writes them back, is
the model's choice (log 10): R60 only says that they are ignored. -/
def Obligations.DecodeOfEncodeIsTheInstruction : Prop :=
  ∀ i : Instr, decode true (encode i) = .ok i

/-- No bit of a command word is dropped: encoding a decoded word gives the word back. From 30_encoding.md section 1;
30_encoding.md section 3. That cmd[47:16] of format S are carried in the instruction, so that they are not dropped
and two words that differ only there are two instructions, is the model's choice (log 10) and not said by these
sections, where R60 says that the bits are ignored. -/
def Obligations.EncodeOfDecodeIsTheWord : Prop :=
  ∀ (hasR2H : Bool) (w : Command) (i : Instr), decode hasR2H w = .ok i → encode i = w

/-- The opcode map: bits 63:48 select one of 46 rows, every other word is reserved. Rules R70. The spec states the map
as its decision D7. -/
def Obligations.OpcodeMapSelectsTheInstruction : Prop :=
  opcodeRows.length = 46 ∧ (opcodeRows.map (·.1)).Nodup ∧
  ∀ (hasR2H : Bool) (w : Command),
    (∀ row ∈ opcodeRows, w.extractLsb' 48 16 = row.1 → (hasR2H = true ∨ row.1.toNat / 4096 ≠ 5) →
      decode hasR2H w = .ok (row.2 w)) ∧
    ((∀ row ∈ opcodeRows, w.extractLsb' 48 16 = row.1 → hasR2H = false ∧ row.1.toNat / 4096 = 5) →
      ∃ why, decode hasR2H w = .error why)

/-- A word is reserved exactly in the cases the spec lists field by field. From 30_encoding.md section 4. -/
def Obligations.ReservedWordsAreTheListedCases : Prop :=
  (∀ w : Command,
    let opc := (w.extractLsb' 48 16).toNat
    let unit := opc / 4096
    let sub := opc / 256 % 16
    let gap := opc / 16 % 16
    let mode := opc % 16
    (∃ why, decode true w = .error why) ↔
      unit = 0 ∨ 6 ≤ unit ∨ gap ≠ 0 ∨
      (unit = 1 ∧ (12 ≤ sub ∨ mode / 2 ≠ 0)) ∨
      ((unit = 2 ∨ unit = 3) ∧ (3 ≤ sub ∨ mode ≠ 0)) ∨
      ((unit = 4 ∨ unit = 5) ∧ (sub / 4 ≠ 0 ∨ mode / 2 ≠ 0))) ∧
  (∃ why, decode true 0#64 = .error why) ∧ (∃ why, decode true (BitVec.allOnes 64) = .error why)

/-- HAS_R2H false makes every word of UNIT 5 reserved and changes no other word. From 44_rgb_to_hsv.md section 1;
30_encoding.md section 3. -/
def Obligations.AbsentUnitReservesItsOpcodesOnly : Prop :=
  ∀ w : Command,
    (20480 ≤ (w.extractLsb' 48 16).toNat → (w.extractLsb' 48 16).toNat < 24576 → ∃ why, decode false w = .error why) ∧
    ((w.extractLsb' 48 16).toNat < 20480 ∨ 24576 ≤ (w.extractLsb' 48 16).toNat → decode false w = decode true w)

/-- Six words written out from the spec decode to their instructions. From 95_test_vectors.md section 6;
95_test_vectors.md section 3.3; 95_test_vectors.md section 4. -/
def Obligations.SampleWordsDecode : Prop :=
  decode true 0x1100FFFFFFFF001F#64 = .ok (.rsU5U16 0xFFFFFFFF 31) ∧
  decode true 0x1601000000001234#64 = .ok (.rsU16U16I 0 4660) ∧
  decode true 0x20000000000000C8#64 = .ok (.gdG8L8 0 200) ∧
  decode true 0x3200000000008000#64 = .ok (.geL16G16 0 32768) ∧
  decode true 0x410000D200210042#64 = .ok (.h2rHdecR8 210 33 66) ∧
  decode true 0x500127104E207530#64 = .ok (.r2hR16H888 10000 20000 30000)

/-- Results of RS.U5.U8, RS.U8.U5, RS.U5.U16 and their kin: 5-bit against 8-bit and 16-bit, 6-bit against 8-bit. Rules
R110, R111, R112, R113, R114, R115. -/
def Obligations.RescaleFiveAndSixBitChannels : Prop :=
  -- R110 RS.U5.U8
  (ScalarRule 0x1000#16 Instr.rsU5U8 31 255 (fun X => (X * 255 + 15) / 31) ∧ ScalarOutOfRange Instr.rsU5U8 31 ∧
    Takes (fun X => (X * 255 + 15) / 31) [(0, 0), (31, 255), (1, 8), (30, 247), (15, 123)] ∧
    Peak (fun X => (X * 255 + 15)) 31 7920 13) ∧
  -- R111 RS.U8.U5
  (ScalarRule 0x1001#16 Instr.rsU8U5 255 31 (fun X => (X * 31 + 127) / 255) ∧ ScalarOutOfRange Instr.rsU8U5 255 ∧
    Takes (fun X => (X * 31 + 127) / 255) [(0, 0), (255, 31), (127, 15)] ∧
    (∀ X, X ≤ 4 → (fun X => (X * 31 + 127) / 255) X = 0) ∧ FirstGives (fun X => (X * 31 + 127) / 255) 1 5 ∧
    FirstGives (fun X => (X * 31 + 127) / 255) 31 251 ∧
    Peak (fun X => (X * 31 + 127)) 255 8032 13) ∧
  -- R112 RS.U5.U16
  (ScalarRule 0x1100#16 Instr.rsU5U16 31 65535 (fun X => (X * 65535 + 15) / 31) ∧ ScalarOutOfRange Instr.rsU5U16 31 ∧
    Takes (fun X => (X * 65535 + 15) / 31) [(0, 0), (31, 65535), (1, 2114), (30, 63421), (15, 31710)] ∧
    Peak (fun X => (X * 65535 + 15)) 31 2031600 21) ∧
  -- R113 RS.U16.U5
  (ScalarRule 0x1101#16 Instr.rsU16U5 65535 31 (fun X => (X * 31 + 32767) / 65535) ∧
    Takes (fun X => (X * 31 + 32767) / 65535) [(0, 0), (65535, 31), (32767, 15)] ∧
    (∀ X, X ≤ 1057 → (fun X => (X * 31 + 32767) / 65535) X = 0) ∧ FirstGives (fun X => (X * 31 + 32767) / 65535) 1 1058 ∧
    FirstGives (fun X => (X * 31 + 32767) / 65535) 31 64478 ∧
    Peak (fun X => (X * 31 + 32767)) 65535 2064352 21) ∧
  -- R114 RS.U6.U8
  (ScalarRule 0x1200#16 Instr.rsU6U8 63 255 (fun X => (X * 255 + 31) / 63) ∧ ScalarOutOfRange Instr.rsU6U8 63 ∧
    Takes (fun X => (X * 255 + 31) / 63) [(0, 0), (63, 255), (1, 4), (62, 251), (31, 125)] ∧
    Peak (fun X => (X * 255 + 31)) 63 16096 14) ∧
  -- R115 RS.U8.U6
  (ScalarRule 0x1201#16 Instr.rsU8U6 255 63 (fun X => (X * 63 + 127) / 255) ∧ ScalarOutOfRange Instr.rsU8U6 255 ∧
    Takes (fun X => (X * 63 + 127) / 255) [(0, 0), (255, 63), (127, 31)] ∧
    (∀ X, X ≤ 2 → (fun X => (X * 63 + 127) / 255) X = 0) ∧ FirstGives (fun X => (X * 63 + 127) / 255) 1 3 ∧
    FirstGives (fun X => (X * 63 + 127) / 255) 63 253 ∧
    Peak (fun X => (X * 63 + 127)) 255 16192 14)

/-- Results of RS.U6.U16, RS.U16.U6, RS.U8.U8 and their kin: 6-bit against 16-bit, the 8-bit identity, 8-bit against
16-bit. Rules R116, R117, R118, R119, R120, R121. -/
def Obligations.RescaleSixEightAndSixteenBitChannels : Prop :=
  -- R116 RS.U6.U16
  (ScalarRule 0x1300#16 Instr.rsU6U16 63 65535 (fun X => (X * 65535 + 31) / 63) ∧ ScalarOutOfRange Instr.rsU6U16 63 ∧
    Takes (fun X => (X * 65535 + 31) / 63) [(0, 0), (63, 65535), (1, 1040), (62, 64495), (31, 32247)] ∧
    Peak (fun X => (X * 65535 + 31)) 63 4128736 22) ∧
  -- R117 RS.U16.U6
  (ScalarRule 0x1301#16 Instr.rsU16U6 65535 63 (fun X => (X * 63 + 32767) / 65535) ∧
    Takes (fun X => (X * 63 + 32767) / 65535) [(0, 0), (65535, 63), (32767, 31)] ∧
    (∀ X, X ≤ 520 → (fun X => (X * 63 + 32767) / 65535) X = 0) ∧ FirstGives (fun X => (X * 63 + 32767) / 65535) 1 521 ∧
    FirstGives (fun X => (X * 63 + 32767) / 65535) 63 65015 ∧
    Peak (fun X => (X * 63 + 32767)) 65535 4161472 22) ∧
  -- R118 RS.U8.U8
  (ScalarRule 0x1400#16 Instr.rsU8U8 255 255 (fun X => X) ∧ ScalarOutOfRange Instr.rsU8U8 255 ∧
    Takes (fun X => X) [(0, 0), (255, 255), (127, 127)]) ∧
  -- R119 RS.U8.U8.I
  (ScalarRule 0x1401#16 Instr.rsU8U8I 255 255 (fun X => X) ∧ ScalarOutOfRange Instr.rsU8U8I 255 ∧
    Takes (fun X => X) [(0, 0), (255, 255), (127, 127)]) ∧
  -- R120 RS.U8.U16
  (ScalarRule 0x1500#16 Instr.rsU8U16 255 65535 (fun X => (X * 65535 + 127) / 255) ∧ ScalarOutOfRange Instr.rsU8U16 255 ∧
    Takes (fun X => (X * 65535 + 127) / 255) [(0, 0), (255, 65535), (1, 257), (254, 65278), (127, 32639)] ∧
    Peak (fun X => (X * 65535 + 127)) 255 16711552 24) ∧
  -- R121 RS.U16.U8
  (ScalarRule 0x1501#16 Instr.rsU16U8 65535 255 (fun X => (X * 255 + 32767) / 65535) ∧
    Takes (fun X => (X * 255 + 32767) / 65535) [(0, 0), (65535, 255), (32767, 127)] ∧
    (∀ X, X ≤ 128 → (fun X => (X * 255 + 32767) / 65535) X = 0) ∧ FirstGives (fun X => (X * 255 + 32767) / 65535) 1 129 ∧
    FirstGives (fun X => (X * 255 + 32767) / 65535) 255 65407 ∧
    Peak (fun X => (X * 255 + 32767)) 65535 16744192 24)

/-- Results of RS.U16.U16, RS.U16.U16.I, RS.PCT.U8 and their kin: the 16-bit identity, percent against 8-bit and 16-bit.
Rules R122, R123, R124, R125, R126, R127. -/
def Obligations.RescaleIdentityAndPercentChannels : Prop :=
  -- R122 RS.U16.U16
  (ScalarRule 0x1600#16 Instr.rsU16U16 65535 65535 (fun X => X) ∧
    Takes (fun X => X) [(0, 0), (65535, 65535), (32767, 32767)]) ∧
  -- R123 RS.U16.U16.I
  (ScalarRule 0x1601#16 Instr.rsU16U16I 65535 65535 (fun X => X) ∧
    Takes (fun X => X) [(0, 0), (65535, 65535), (32767, 32767)]) ∧
  -- R124 RS.PCT.U8
  (ScalarRule 0x1700#16 Instr.rsPctU8 100 255 (fun X => (X * 255 + 50) / 100) ∧ ScalarOutOfRange Instr.rsPctU8 100 ∧
    Takes (fun X => (X * 255 + 50) / 100) [(0, 0), (100, 255), (1, 3), (99, 252), (50, 128)] ∧
    Peak (fun X => (X * 255 + 50)) 100 25550 15) ∧
  -- R125 RS.U8.PCT
  (ScalarRule 0x1701#16 Instr.rsU8Pct 255 100 (fun X => (X * 100 + 127) / 255) ∧ ScalarOutOfRange Instr.rsU8Pct 255 ∧
    Takes (fun X => (X * 100 + 127) / 255) [(0, 0), (255, 100), (127, 50)] ∧
    (∀ X, X ≤ 1 → (fun X => (X * 100 + 127) / 255) X = 0) ∧ FirstGives (fun X => (X * 100 + 127) / 255) 1 2 ∧
    FirstGives (fun X => (X * 100 + 127) / 255) 100 254 ∧
    Peak (fun X => (X * 100 + 127)) 255 25627 15) ∧
  -- R126 RS.PCT.U16
  (ScalarRule 0x1800#16 Instr.rsPctU16 100 65535 (fun X => (X * 65535 + 50) / 100) ∧ ScalarOutOfRange Instr.rsPctU16 100 ∧
    Takes (fun X => (X * 65535 + 50) / 100) [(0, 0), (100, 65535), (1, 655), (99, 64880), (50, 32768)] ∧
    Peak (fun X => (X * 65535 + 50)) 100 6553550 23) ∧
  -- R127 RS.U16.PCT
  (ScalarRule 0x1801#16 Instr.rsU16Pct 65535 100 (fun X => (X * 100 + 32767) / 65535) ∧
    Takes (fun X => (X * 100 + 32767) / 65535) [(0, 0), (65535, 100), (32767, 50)] ∧
    (∀ X, X ≤ 327 → (fun X => (X * 100 + 32767) / 65535) X = 0) ∧ FirstGives (fun X => (X * 100 + 32767) / 65535) 1 328 ∧
    FirstGives (fun X => (X * 100 + 32767) / 65535) 100 65208 ∧
    Peak (fun X => (X * 100 + 32767)) 65535 6586267 23)

/-- Results of RS.A8.DEG, RS.DEG.A8, RS.DEG.A16 and their kin: the six hue angle instructions. Rules R128, R129, R130,
R131, R132, R133. -/
def Obligations.RescaleHueAngles : Prop :=
  -- R128 RS.A8.DEG
  (ScalarRule 0x1900#16 Instr.rsA8Deg 255 359 (fun X => (X * 360 + 128) / 256) ∧ ScalarOutOfRange Instr.rsA8Deg 255 ∧
    Takes (fun X => (X * 360 + 128) / 256) [(0, 0), (255, 359), (1, 1), (254, 357), (127, 179)] ∧
    Peak (fun X => (X * 360 + 128)) 255 91928 17) ∧
  -- R129 RS.DEG.A8
  (ScalarRule 0x1901#16 Instr.rsDegA8 359 255 (fun X => ((X * 256 + 180) / 360) % 256) ∧ ScalarOutOfRange Instr.rsDegA8 359 ∧
    Takes (fun X => ((X * 256 + 180) / 360) % 256) [(0, 0), (359, 255), (179, 127)] ∧
    (∀ X, X ≤ 359 → (fun X => ((X * 256 + 180) / 360) % 256) X = 0 → X = 0) ∧ FirstGives (fun X => ((X * 256 + 180) / 360) % 256) 1 1 ∧
    FirstGives (fun X => ((X * 256 + 180) / 360) % 256) 255 358 ∧
    (∀ X, X ≤ 359 → (X * 256 + 180) / 360 < 256) ∧
    Peak (fun X => (X * 256 + 180)) 359 92084 17) ∧
  -- R130 RS.DEG.A16
  (ScalarRule 0x1A00#16 Instr.rsDegA16 359 65535 (fun X => (X * 65536 + 180) / 360) ∧ ScalarOutOfRange Instr.rsDegA16 359 ∧
    Takes (fun X => (X * 65536 + 180) / 360) [(0, 0), (359, 65354), (1, 182), (358, 65172), (179, 32586)] ∧
    (∀ X, X ≤ 359 → (fun X => (X * 65536 + 180) / 360) X ≠ 65535) ∧
    Peak (fun X => (X * 65536 + 180)) 359 23527604 25) ∧
  -- R131 RS.A16.DEG
  (ScalarRule 0x1A01#16 Instr.rsA16Deg 65535 359 (fun X => ((X * 360 + 32768) / 65536) % 360) ∧
    Takes (fun X => ((X * 360 + 32768) / 65536) % 360) [(0, 0), (65535, 0), (65444, 359), (32767, 180)] ∧
    (∀ X, X ≤ 91 → (fun X => ((X * 360 + 32768) / 65536) % 360) X = 0) ∧ FirstGives (fun X => ((X * 360 + 32768) / 65536) % 360) 1 92 ∧
    FirstGives (fun X => ((X * 360 + 32768) / 65536) % 360) 359 65263 ∧
    (∀ X, 65445 ≤ X → X ≤ 65535 → (X * 360 + 32768) / 65536 = 360 ∧ (fun X => ((X * 360 + 32768) / 65536) % 360) X = 0) ∧
    Peak (fun X => (X * 360 + 32768)) 65535 23625368 25) ∧
  -- R132 RS.A8.A16
  (ScalarRule 0x1B00#16 Instr.rsA8A16 255 65535 (fun X => (X * 65536 + 128) / 256) ∧ ScalarOutOfRange Instr.rsA8A16 255 ∧
    Takes (fun X => (X * 65536 + 128) / 256) [(0, 0), (255, 65280), (1, 256), (254, 65024), (127, 32512)] ∧
    (∀ X, X ≤ 255 → (fun X => (X * 65536 + 128) / 256) X ≠ 65535) ∧
    Peak (fun X => (X * 65536 + 128)) 255 16711808 24) ∧
  -- R133 RS.A16.A8
  (ScalarRule 0x1B01#16 Instr.rsA16A8 65535 255 (fun X => ((X * 256 + 32768) / 65536) % 256) ∧
    Takes (fun X => ((X * 256 + 32768) / 65536) % 256) [(0, 0), (65535, 0), (65407, 255), (32767, 128)] ∧
    (∀ X, X ≤ 127 → (fun X => ((X * 256 + 32768) / 65536) % 256) X = 0) ∧ FirstGives (fun X => ((X * 256 + 32768) / 65536) % 256) 1 128 ∧
    FirstGives (fun X => ((X * 256 + 32768) / 65536) % 256) 255 65152 ∧
    (∀ X, 65408 ≤ X → X ≤ 65535 → (X * 256 + 32768) / 65536 = 256 ∧ (fun X => ((X * 256 + 32768) / 65536) % 256) X = 0) ∧
    Peak (fun X => (X * 256 + 32768)) 65535 16809728 25)

/-- Round-trip exactness: small to large to small gives the small value back, for all twelve pairs. Rules R105.
channelDistance is the plain distance, and for a hue pair the distance around the circle of `L + 1` codes: the
reading of "nearest" for a wrapping channel. -/
def Obligations.SmallToLargeToSmallIsExact : Prop :=
  (∀ p ∈ rangePairs, ∀ x, x ≤ p.small → toLarge p x ≤ p.large ∧ toSmall p (toLarge p x) = x) ∧
  (∀ p ∈ [pair0, pair1, pair2, pair3, pair5, pair7, pair8, pair10, pair11], 2 * p.small ≤ p.large) ∧
  (pair9.large < 2 * pair9.small ∧ pair4.small = pair4.large ∧ pair6.small = pair6.large) ∧
  (∀ p ∈ rangePairs, ∀ y, y ≤ p.large → ∀ x, x ≤ p.small →
    channelDistance p (toLarge p (toSmall p y)) y ≤ channelDistance p (toLarge p x) y) ∧
  toLarge pair0 (toSmall pair0 1) ≠ 1

/-- Zero maps to zero for all pairs, maximum to maximum for all non-angle pairs. From 40_range_rescaler.md section 2.
40_range_rescaler.md R106; its clause on `to_small` is the spec's own inference: '[derived: from rule R102'. -/
def Obligations.BoundariesMapToBoundaries : Prop :=
  (∀ p ∈ rangePairs, toLarge p 0 = 0 ∧ toSmall p 0 = 0) ∧
  (∀ p ∈ rangePairs, p.angle = false → toLarge p p.small = p.large ∧ toSmall p p.large = p.small) ∧
  (rangePairs.filter (·.angle)) = [pair9, pair10, pair11] ∧
  (toLarge pair9 255 = 359 ∧ toLarge pair10 359 = 65354 ∧ toLarge pair11 255 = 65280) ∧
  (toSmall pair9 359 = 255 ∧ toSmall pair10 65535 = 0 ∧ toSmall pair11 65535 = 0)

/-- Even distribution: consecutive landing values differ by the floor quotient or one more. Rules R107. -/
def Obligations.LandingValuesAreEvenlySpread : Prop :=
  (∀ p ∈ rangePairs, p.angle = false → ∀ x, x < p.small →
    toLarge p (x + 1) = toLarge p x + p.large / p.small ∨ toLarge p (x + 1) = toLarge p x + p.large / p.small + 1) ∧
  (∀ p ∈ rangePairs, p.angle = true → ∀ x, x < p.small →
    toLarge p (x + 1) = toLarge p x + (p.large + 1) / (p.small + 1) ∨
    toLarge p (x + 1) = toLarge p x + (p.large + 1) / (p.small + 1) + 1) ∧
  (∀ q ∈ [(pair0, 8), (pair1, 2114), (pair2, 4), (pair3, 1040), (pair7, 2), (pair8, 655), (pair9, 1), (pair10, 182)],
    (∀ x, x < q.1.small → toLarge q.1 (x + 1) = toLarge q.1 x + q.2 ∨ toLarge q.1 (x + 1) = toLarge q.1 x + q.2 + 1) ∧
    (∃ x, x < q.1.small ∧ toLarge q.1 (x + 1) = toLarge q.1 x + q.2) ∧
    (∃ x, x < q.1.small ∧ toLarge q.1 (x + 1) = toLarge q.1 x + q.2 + 1)) ∧
  (∀ q ∈ [(pair4, 1), (pair6, 1), (pair5, 257), (pair11, 256)],
    ∀ x, x < q.1.small → toLarge q.1 (x + 1) = toLarge q.1 x + q.2) ∧
  ((pair9.large + 1) / (pair9.small + 1) = pair9.large / pair9.small ∧
    (pair10.large + 1) / (pair10.small + 1) = pair10.large / pair10.small ∧ pair11.large / pair11.small = 257)

/-- to_small never falls and rises by at most one, but for the wrap of pairs 10 and 11; to_large is strictly increasing.
Rules R108. -/
def Obligations.ToSmallStepsByAtMostOneButAtTheWrap : Prop :=
  (∀ p ∈ rangePairs, p ≠ pair10 → p ≠ pair11 → ∀ y, y < p.large →
    toSmall p (y + 1) = toSmall p y ∨ toSmall p (y + 1) = toSmall p y + 1) ∧
  (∀ p ∈ [pair4, pair6], ∀ y, y < p.large → toSmall p (y + 1) = toSmall p y + 1) ∧
  (∀ q ∈ [(pair10, 65444), (pair11, 65407)],
    (∀ y, y < q.1.large → y ≠ q.2 → toSmall q.1 (y + 1) = toSmall q.1 y ∨ toSmall q.1 (y + 1) = toSmall q.1 y + 1) ∧
    toSmall q.1 q.2 = q.1.small ∧ (∀ y, q.2 < y → y ≤ q.1.large → toSmall q.1 y = 0) ∧
    toSmall q.1 (q.2 + 1) = (toSmall q.1 q.2 + 1) % (q.1.small + 1)) ∧
  (∀ p ∈ rangePairs, ∀ x y, x < y → y ≤ p.small → toLarge p x < toLarge p y)

/-- The closed forms of pairs 4, 5, 6, 9 and 11 agree with the rule forms on every input. From 40_range_rescaler.md
section 4. 40_range_rescaler.md R134, the spec's own inference: 'Equivalent closed forms, each checked on every
input [derived: from rules R101 to R104]'. -/
def Obligations.RescalerClosedForms : Prop :=
  (∀ x, x ≤ 255 → toLarge pair5 x = 257 * x) ∧ (∀ y, y ≤ 65535 → toSmall pair5 y = (y + 128) / 257) ∧
  (∀ x, x ≤ 255 → toLarge pair11 x = 256 * x) ∧ (∀ y, y ≤ 65535 → toSmall pair11 y = (y + 128) / 256 % 256) ∧
  (∀ x, x ≤ 255 → toLarge pair9 x = (45 * x + 16) / 32) ∧ (∀ y, y ≤ 359 → toSmall pair9 y = (64 * y + 45) / 90 % 256) ∧
  (∀ x, x ≤ 255 → toLarge pair4 x = x ∧ toSmall pair4 x = x) ∧ (∀ x, x ≤ 65535 → toLarge pair6 x = x ∧ toSmall pair6 x = x)

/-- rhu(n, d) is the rational n/d rounded half up, for every d > 0. From 00_scope.md section 5. 00_scope.md R10; its
clause on odd `d` is the spec's own inference: 'For odd `d` it adds `(d-1)/2` and still equals `floor(n/d + 1/2)`
[derived: ...]'. -/
def Obligations.RoundHalfUpIsTheRoundedRational : Prop :=
  (∀ n d : Nat, 0 < d → (rhu n d : ℤ) = ⌊(n : ℚ) / d + 1 / 2⌋) ∧
  (∀ n d : Nat, d % 2 = 1 → rhu n d = (n + (d - 1) / 2) / d)

/-- GD.G8.L8, GD.G8.L16 and GE.L8.G8 answer the entry of their table. Rules R144, R145, R164. -/
def Obligations.GammaTableInstructionsReadTheirTables : Prop :=
  -- R144 GD.G8.L8
  (ScalarRule 0x2000#16 Instr.gdG8L8 255 255 (romRead romG8L8) ∧ ScalarOutOfRange Instr.gdG8L8 255 ∧
    Takes (romRead romG8L8) [(0, 0), (1, 0), (2, 0), (3, 0), (4, 0), (5, 0), (6, 0), (7, 1), (10, 1), (11, 1), (128, 55), (200, 147), (255, 255)]) ∧
  -- R145 GD.G8.L16
  (ScalarRule 0x2100#16 Instr.gdG8L16 255 65535 (romRead romG8L16) ∧ ScalarOutOfRange Instr.gdG8L16 255 ∧
    Takes (romRead romG8L16) [(0, 0), (1, 20), (10, 199), (11, 219), (128, 14146), (200, 37852), (255, 65535)]) ∧
  -- R164 GE.L8.G8
  (ScalarRule 0x3000#16 Instr.geL8G8 255 255 (romRead romL8G8) ∧ ScalarOutOfRange Instr.geL8G8 255 ∧
    Takes (romRead romL8G8) [(0, 0), (1, 13), (2, 22), (54, 127), (55, 128), (128, 188), (254, 255), (255, 255)]) ∧
  (∃ i, i ≤ 255 ∧ toLarge pair5 (romRead romG8L8 i) ≠ romRead romG8L16 i) ∧
  (∀ i, i ≤ 255 → gammaDec (toLarge pair5 i) 65535 65535 = romRead romG8L16 i)

/-- The three 16-bit gamma instructions in exact mode: encoding, result, linear branch, corner values. From
41_gamma_decode.md section 3; 42_gamma_encode.md section 3. -/
def Obligations.AnalyticGammaInstructionsInExactMode : Prop :=
  -- GD.G16.L16, GE.L16.G8, GE.L16.G16: the encoding and the result in exact mode
  (∀ (hasR2H : Bool) (w : Command),
    (w.extractLsb' 48 16 = 0x2200#16 → decode hasR2H w = .ok (.gdG16L16 (w.extractLsb' 16 32) (w.extractLsb' 0 16))) ∧
    (w.extractLsb' 48 16 = 0x3100#16 → decode hasR2H w = .ok (.geL16G8 (w.extractLsb' 16 32) (w.extractLsb' 0 16))) ∧
    (w.extractLsb' 48 16 = 0x3200#16 → decode hasR2H w = .ok (.geL16G16 (w.extractLsb' 16 32) (w.extractLsb' 0 16)))) ∧
  (∀ (s : State) (ign : Ignored) (x : Lane), s.gammaMode = .exact →
    exec (.gdG16L16 ign x) s = .next (answered s (BitVec.ofNat 48 (gammaDec x.toNat 65535 65535))) ∧
    exec (.geL16G8 ign x) s = .next (answered s (BitVec.ofNat 48 (gammaEnc x.toNat 65535 255))) ∧
    exec (.geL16G16 ign x) s = .next (answered s (BitVec.ofNat 48 (gammaEnc x.toNat 65535 65535)))) ∧
  -- the linear branches and the corner values
  (∀ X, X ≤ 2650 → gammaDec X 65535 65535 = (50 * X + 323) / 646) ∧
  (∀ X, X ≤ 205 → gammaEnc X 65535 255 = (646 * X + 6425) / 12850 ∧ gammaEnc X 65535 65535 = (646 * X + 25) / 50) ∧
  Takes (gammaDec · 65535 65535) [(0, 0), (65535, 65535), (1, 0), (6, 0), (7, 1), (2650, 205), (2651, 205), (2652, 205),
    (32768, 14028), (65534, 65533)] ∧
  Takes (gammaEnc · 65535 255) [(0, 0), (9, 0), (10, 1), (205, 10), (206, 10), (14146, 128), (32768, 188), (65243, 254),
    (65244, 255), (65535, 255)] ∧
  Takes (gammaEnc · 65535 65535) [(0, 0), (1, 13), (2, 26), (205, 2649), (206, 2661), (207, 2674), (14028, 32768),
    (32768, 48192), (65534, 65535), (65535, 65535)] ∧
  (∀ i, i ≤ 255 → gammaEnc (257 * i) 65535 255 = romRead romL8G8 i ∧ gammaEnc (romRead romG8L16 i) 65535 255 = i)

/-- The two decode tables are the formula at every index. Rules R142, R143. The spec states the contents as its decision
D15. -/
def Obligations.DecodeTablesAreTheFormula : Prop :=
  (∀ i, i < 256 → romRead romG8L8 i = gammaDec i 255 255) ∧ ((List.range 256).map (romRead romG8L8)).sum = 20304 ∧
  (∀ i, i ≤ 6 → romRead romG8L8 i = 0) ∧ (∀ i, 7 ≤ i → i ≤ 17 → romRead romG8L8 i = 1) ∧
  (∀ i, i < 256 → romRead romG8L16 i = gammaDec i 255 65535) ∧ ((List.range 256).map (romRead romG8L16)).sum = 5217863 ∧
  (∀ i, i < 255 → romRead romG8L16 i < romRead romG8L16 (i + 1)) ∧
  (∀ i, i < 256 → gammaEnc (romRead romG8L16 i) 65535 255 = i)

/-- The encode table is the formula at every index. From 42_gamma_encode.md section 2. -/
def Obligations.EncodeTableIsTheFormula : Prop :=
  (∀ i, i < 256 → romRead romL8G8 i = gammaEnc i 255 255) ∧ ((List.range 256).map (romRead romL8G8)).sum = 44981 ∧
  (∀ i, i < 255 → romRead romL8G8 i ≤ romRead romL8G8 (i + 1)) ∧
  (∀ i, i < 75 → romRead romL8G8 i < romRead romL8G8 (i + 1)) ∧ romRead romL8G8 75 = 148 ∧ romRead romL8G8 76 = 148

/-- Gamma decode returns the real sRGB formula rounded half up, for every code and both precisions. Rules R141. The spec
states the rounding and the exact threshold as its decisions D15, D16 and D17. -/
def Obligations.GammaDecodeIsTheRoundedRealFormula : Prop :=
  (∀ m out : Nat, (m = 255 ∨ m = 65535) → (out = 255 ∨ out = 65535) →
    (∀ n : Nat, n ≤ m → (gammaDec n m out : ℤ) = ⌊(out : ℝ) * srgbDecode ((n : ℝ) / m) + 1 / 2⌋) ∧
    gammaDec 0 m out = 0 ∧ gammaDec m m out = out ∧
    (∀ a b : Nat, a ≤ b → b ≤ m → gammaDec a m out ≤ gammaDec b m out)) ∧
  (∀ n m : Nat, 0 < m → ((n : ℝ) / m ≤ 0.04045 ↔ 100000 * n ≤ 4045 * m)) ∧
  (∀ n : Nat, 100000 * n ≤ 4045 * 255 ↔ n ≤ 10) ∧ (∀ n : Nat, 100000 * n ≤ 4045 * 65535 ↔ n ≤ 2650)

/-- Gamma encode returns the real sRGB formula rounded half up, for every code and both precisions. Rules R161. The spec
states the rounding and the exact threshold as its decisions D15, D16 and D17. -/
def Obligations.GammaEncodeIsTheRoundedRealFormula : Prop :=
  (∀ m out : Nat, (m = 255 ∨ m = 65535) → (out = 255 ∨ out = 65535) →
    (∀ n : Nat, n ≤ m → (gammaEnc n m out : ℤ) = ⌊(out : ℝ) * srgbEncode ((n : ℝ) / m) + 1 / 2⌋) ∧
    gammaEnc 0 m out = 0 ∧ gammaEnc m m out = out) ∧
  (∀ n m : Nat, 0 < m → ((n : ℝ) / m ≤ 0.0031308 ↔ 10000000 * n ≤ 31308 * m)) ∧
  (∀ n : Nat, 10000000 * n ≤ 31308 * 255 ↔ n = 0) ∧ (∀ n : Nat, 10000000 * n ≤ 31308 * 65535 ↔ n ≤ 205)

/-- GAMMA16_MODE configured: three functions with exactly the named properties, and exact is one instance. Rules R168.
That the configured functions depend on the operand alone is their type; the functions themselves are free (log 8),
and the statement uses none of their values beyond the named properties. -/
def Obligations.ConfiguredGammaHasTheNamedProperties : Prop :=
  (∀ (s : State) (ign : Ignored) (x : Lane), s.gammaMode = .configured →
    exec (.gdG16L16 ign x) s = .next (answered s (BitVec.ofNat 48 (cfgDec16 x))) ∧
    exec (.geL16G16 ign x) s = .next (answered s (BitVec.ofNat 48 (cfgEnc16 x))) ∧
    exec (.geL16G8 ign x) s = .next (answered s (BitVec.ofNat 48 (cfgEnc16to8 x)))) ∧
  (MonotoneOnto cfgDec16 65535 ∧ MonotoneOnto cfgEnc16 65535 ∧ MonotoneOnto cfgEnc16to8 255 ∧
    ∀ i, i < 256 → cfgEnc16to8 (BitVec.ofNat 16 (257 * i)) = romRead romL8G8 i ∧
      cfgDec16 (BitVec.ofNat 16 (257 * i)) = romRead romG8L16 i) ∧
  (MonotoneOnto (fun x => gammaDec x.toNat 65535 65535) 65535 ∧ MonotoneOnto (fun x => gammaEnc x.toNat 65535 65535) 65535 ∧
    MonotoneOnto (fun x => gammaEnc x.toNat 65535 255) 255 ∧
    ∀ i, i < 256 → gammaEnc (257 * i) 65535 255 = romRead romL8G8 i ∧ gammaDec (257 * i) 65535 65535 = romRead romG8L16 i) ∧
  (∀ (s : State) (ign : Ignored) (x : Lane) (m : GammaMode), x.toNat ≤ 255 →
    exec (.gdG8L8 ign x) { s with gammaMode := m } =
      .next (answered { s with gammaMode := m } (BitVec.ofNat 48 (romRead romG8L8 x.toNat))) ∧
    exec (.gdG8L16 ign x) { s with gammaMode := m } =
      .next (answered { s with gammaMode := m } (BitVec.ofNat 48 (romRead romG8L16 x.toNat))) ∧
    exec (.geL8G8 ign x) { s with gammaMode := m } =
      .next (answered { s with gammaMode := m } (BitVec.ofNat 48 (romRead romL8G8 x.toNat))))

/-- The tables are the 16-bit forms sampled at the rescaled codes. From 41_gamma_decode.md section 4; 42_gamma_encode.md
section 4. -/
def Obligations.GammaTablesAgreeWithTheSixteenBitForms : Prop :=
  (∀ i, i ≤ 255 → romRead romG8L16 i = gammaDec (257 * i) 65535 65535 ∧ toLarge pair5 i = 257 * i) ∧
  (∀ i, i ≤ 255 → romRead romG8L8 i = toSmall pair5 (romRead romG8L16 i)) ∧
  (∀ i, i ≤ 255 → romRead romL8G8 i = gammaEnc (257 * i) 65535 255)

/-- The 8-bit gamma tables are near inverses, with the exact list of exceptions. From 42_gamma_encode.md section 4. -/
def Obligations.EightBitGammaTripsAreNearInverse : Prop :=
  (∀ v, v ≤ 255 → romRead romG8L8 (romRead romL8G8 v) ≤ v + 1 ∧ v ≤ romRead romG8L8 (romRead romL8G8 v) + 1) ∧
  ((List.range 256).filter (fun v => romRead romG8L8 (romRead romL8G8 v) == v)).length = 183 ∧
  ((List.range 256).filter (fun v => romRead romL8G8 (romRead romG8L8 v) == v)).length = 183 ∧
  (List.range 256).filter (fun v =>
      decide (v + 1 < romRead romL8G8 (romRead romG8L8 v)) || decide (romRead romL8G8 (romRead romG8L8 v) + 1 < v)) =
    [2, 3, 4, 5, 6, 7, 8, 9, 10, 11, 15, 16, 17, 18, 19, 20, 24, 25, 26, 30, 31, 32, 36, 40, 44, 48] ∧
  (∀ v, v ≤ 255 → romRead romL8G8 (romRead romG8L8 v) ≤ v + 6 ∧ v ≤ romRead romL8G8 (romRead romG8L8 v) + 6) ∧
  (romRead romL8G8 (romRead romG8L8 6) = 0 ∧ romRead romL8G8 (romRead romG8L8 7) = 13)

/-- Results of H2R.H888.R8, H2R.H888.R16, H2R.HDEC.R8, H2R.HDEC.R16. Rules R190, R191, R192, R193. -/
def Obligations.HsvToRgbOfEightBitAndDecimalHues : Prop :=
  -- R190 H2R.H888.R8
  (TupleRule 0x4000#16 .h2rH888R8 false (fun h s v => h ≤ 255 ∧ s ≤ 255 ∧ v ≤ 255) (255, 255, 255) (hsvFormula 256 255 255) ∧
    TupleOutOfRange .h2rH888R8 (fun h s v => h ≤ 255 ∧ s ≤ 255 ∧ v ≤ 255) ∧
    TakesTuple (hsvFormula 256 255 255) [((0, 255, 255), (255, 0, 0)), ((42, 255, 255), (255, 251, 0)), ((43, 255, 255), (254, 255, 0)), ((128, 255, 255), (0, 255, 255)), ((128, 0, 127), (127, 127, 127)), ((255, 255, 0), (0, 0, 0)), ((255, 1, 1), (1, 1, 1)), ((255, 255, 1), (1, 0, 1)), ((21, 127, 127), (127, 95, 64)), ((255, 255, 255), (255, 0, 6)), ((149, 85, 170), (114, 143, 170))] ∧
    (42 * 6 / 256 = 0 ∧ 43 * 6 / 256 = 1 ∧ (128 - 1) * 6 / 256 = 2 ∧ 128 * 6 / 256 = 3 ∧ 255 * 6 / 256 = 5) ∧
    (∀ h, h ≤ 255 → (hsvFormula 256 255 255) h 0 127 = (127, 127, 127))) ∧
  -- R191 H2R.H888.R16
  (TupleRule 0x4001#16 .h2rH888R16 false (fun h s v => h ≤ 255 ∧ s ≤ 255 ∧ v ≤ 255) (65535, 65535, 65535) (hsvFormula 256 255 65535) ∧
    TupleOutOfRange .h2rH888R16 (fun h s v => h ≤ 255 ∧ s ≤ 255 ∧ v ≤ 255) ∧
    TakesTuple (hsvFormula 256 255 65535) [((0, 255, 255), (65535, 0, 0)), ((42, 255, 255), (65535, 64511, 0)), ((43, 255, 255), (65024, 65535, 0)), ((128, 255, 255), (0, 65535, 65535)), ((128, 0, 127), (32639, 32639, 32639)), ((255, 255, 0), (0, 0, 0)), ((255, 1, 1), (257, 257, 257)), ((255, 255, 1), (257, 0, 7)), ((21, 127, 127), (32639, 24417, 16448)), ((255, 255, 255), (65535, 0, 1536)), ((149, 85, 170), (29298, 36607, 43690))] ∧
    (42 * 6 / 256 = 0 ∧ 43 * 6 / 256 = 1 ∧ (128 - 1) * 6 / 256 = 2 ∧ 128 * 6 / 256 = 3 ∧ 255 * 6 / 256 = 5) ∧
    (∀ h, h ≤ 255 → (hsvFormula 256 255 65535) h 0 127 = (32639, 32639, 32639))) ∧
  -- R192 H2R.HDEC.R8
  (TupleRule 0x4100#16 .h2rHdecR8 false (fun h s v => h ≤ 359 ∧ s ≤ 100 ∧ v ≤ 100) (255, 255, 255) (hsvFormula 360 100 255) ∧
    TupleOutOfRange .h2rHdecR8 (fun h s v => h ≤ 359 ∧ s ≤ 100 ∧ v ≤ 100) ∧
    TakesTuple (hsvFormula 360 100 255) [((0, 100, 100), (255, 0, 0)), ((59, 100, 100), (255, 250, 0)), ((60, 100, 100), (255, 255, 0)), ((180, 100, 100), (0, 255, 255)), ((180, 0, 50), (128, 128, 128)), ((359, 100, 0), (0, 0, 0)), ((359, 1, 1), (3, 3, 3)), ((359, 100, 1), (3, 0, 1)), ((30, 50, 50), (128, 96, 64)), ((359, 100, 100), (255, 0, 5)), ((210, 33, 66), (114, 141, 168))] ∧
    (59 * 6 / 360 = 0 ∧ 60 * 6 / 360 = 1 ∧ (180 - 1) * 6 / 360 = 2 ∧ 180 * 6 / 360 = 3 ∧ 359 * 6 / 360 = 5) ∧
    (∀ h, h ≤ 359 → (hsvFormula 360 100 255) h 0 50 = (128, 128, 128))) ∧
  -- R193 H2R.HDEC.R16
  (TupleRule 0x4101#16 .h2rHdecR16 false (fun h s v => h ≤ 359 ∧ s ≤ 100 ∧ v ≤ 100) (65535, 65535, 65535) (hsvFormula 360 100 65535) ∧
    TupleOutOfRange .h2rHdecR16 (fun h s v => h ≤ 359 ∧ s ≤ 100 ∧ v ≤ 100) ∧
    TakesTuple (hsvFormula 360 100 65535) [((0, 100, 100), (65535, 0, 0)), ((59, 100, 100), (65535, 64442, 0)), ((60, 100, 100), (65535, 65535, 0)), ((180, 100, 100), (0, 65535, 65535)), ((180, 0, 50), (32768, 32768, 32768)), ((359, 100, 0), (0, 0, 0)), ((359, 1, 1), (655, 655, 655)), ((359, 100, 1), (655, 0, 11)), ((30, 50, 50), (32768, 24576, 16384)), ((359, 100, 100), (65535, 0, 1093)), ((210, 33, 66), (29491, 36372, 43253))] ∧
    (59 * 6 / 360 = 0 ∧ 60 * 6 / 360 = 1 ∧ (180 - 1) * 6 / 360 = 2 ∧ 180 * 6 / 360 = 3 ∧ 359 * 6 / 360 = 5) ∧
    (∀ h, h ≤ 359 → (hsvFormula 360 100 65535) h 0 50 = (32768, 32768, 32768)))

/-- Results of H2R.H32.R8, H2R.H32.R16, H2R.H48.R8, H2R.H48.R16. Rules R194, R195, R196, R197. -/
def Obligations.HsvToRgbOfSixteenBitHues : Prop :=
  -- R194 H2R.H32.R8
  (TupleRule 0x4200#16 .h2rH32R8 false (fun h s v => h ≤ 65535 ∧ s ≤ 255 ∧ v ≤ 255) (255, 255, 255) (hsvFormula 65536 255 255) ∧
    TupleOutOfRange .h2rH32R8 (fun h s v => h ≤ 65535 ∧ s ≤ 255 ∧ v ≤ 255) ∧
    TakesTuple (hsvFormula 65536 255 255) [((0, 255, 255), (255, 0, 0)), ((10922, 255, 255), (255, 254, 0)), ((10923, 255, 255), (255, 255, 0)), ((32768, 255, 255), (0, 255, 255)), ((32768, 0, 127), (127, 127, 127)), ((65535, 255, 0), (0, 0, 0)), ((65535, 1, 1), (1, 1, 1)), ((65535, 255, 1), (1, 0, 1)), ((5461, 127, 127), (127, 95, 64)), ((65535, 255, 255), (255, 0, 1)), ((38229, 85, 170), (114, 143, 170))] ∧
    (10922 * 6 / 65536 = 0 ∧ 10923 * 6 / 65536 = 1 ∧ (32768 - 1) * 6 / 65536 = 2 ∧ 32768 * 6 / 65536 = 3 ∧ 65535 * 6 / 65536 = 5) ∧
    (∀ h, h ≤ 65535 → (hsvFormula 65536 255 255) h 0 127 = (127, 127, 127))) ∧
  -- R195 H2R.H32.R16
  (TupleRule 0x4201#16 .h2rH32R16 false (fun h s v => h ≤ 65535 ∧ s ≤ 255 ∧ v ≤ 255) (65535, 65535, 65535) (hsvFormula 65536 255 65535) ∧
    TupleOutOfRange .h2rH32R16 (fun h s v => h ≤ 65535 ∧ s ≤ 255 ∧ v ≤ 255) ∧
    TakesTuple (hsvFormula 65536 255 65535) [((0, 255, 255), (65535, 0, 0)), ((10922, 255, 255), (65535, 65531, 0)), ((10923, 255, 255), (65534, 65535, 0)), ((32768, 255, 255), (0, 65535, 65535)), ((32768, 0, 127), (32639, 32639, 32639)), ((65535, 255, 0), (0, 0, 0)), ((65535, 1, 1), (257, 257, 257)), ((65535, 255, 1), (257, 0, 1)), ((5461, 127, 127), (32639, 24543, 16448)), ((65535, 255, 255), (65535, 0, 6)), ((38229, 85, 170), (29298, 36495, 43690))] ∧
    (10922 * 6 / 65536 = 0 ∧ 10923 * 6 / 65536 = 1 ∧ (32768 - 1) * 6 / 65536 = 2 ∧ 32768 * 6 / 65536 = 3 ∧ 65535 * 6 / 65536 = 5) ∧
    (∀ h, h ≤ 65535 → (hsvFormula 65536 255 65535) h 0 127 = (32639, 32639, 32639))) ∧
  -- R196 H2R.H48.R8
  (TupleRule 0x4300#16 .h2rH48R8 false (fun h s v => h ≤ 65535 ∧ s ≤ 65535 ∧ v ≤ 65535) (255, 255, 255) (hsvFormula 65536 65535 255) ∧
    TakesTuple (hsvFormula 65536 65535 255) [((0, 65535, 65535), (255, 0, 0)), ((10922, 65535, 65535), (255, 254, 0)), ((10923, 65535, 65535), (255, 255, 0)), ((32768, 65535, 65535), (0, 255, 255)), ((32768, 0, 32767), (127, 127, 127)), ((65535, 65535, 0), (0, 0, 0)), ((65535, 1, 1), (0, 0, 0)), ((65535, 65535, 1), (0, 0, 0)), ((5461, 32767, 32767), (127, 94, 63)), ((65535, 65535, 65535), (255, 0, 1)), ((38229, 21845, 43690), (113, 142, 170))] ∧
    (10922 * 6 / 65536 = 0 ∧ 10923 * 6 / 65536 = 1 ∧ (32768 - 1) * 6 / 65536 = 2 ∧ 32768 * 6 / 65536 = 3 ∧ 65535 * 6 / 65536 = 5) ∧
    (∀ h, h ≤ 65535 → (hsvFormula 65536 65535 255) h 0 32767 = (127, 127, 127))) ∧
  -- R197 H2R.H48.R16
  (TupleRule 0x4301#16 .h2rH48R16 false (fun h s v => h ≤ 65535 ∧ s ≤ 65535 ∧ v ≤ 65535) (65535, 65535, 65535) (hsvFormula 65536 65535 65535) ∧
    TakesTuple (hsvFormula 65536 65535 65535) [((0, 65535, 65535), (65535, 0, 0)), ((10922, 65535, 65535), (65535, 65531, 0)), ((10923, 65535, 65535), (65534, 65535, 0)), ((32768, 65535, 65535), (0, 65535, 65535)), ((32768, 0, 32767), (32767, 32767, 32767)), ((65535, 65535, 0), (0, 0, 0)), ((65535, 1, 1), (1, 1, 1)), ((65535, 65535, 1), (1, 0, 1)), ((5461, 32767, 32767), (32767, 24575, 16384)), ((65535, 65535, 65535), (65535, 0, 6)), ((38229, 21845, 43690), (29127, 36409, 43690))] ∧
    (10922 * 6 / 65536 = 0 ∧ 10923 * 6 / 65536 = 1 ∧ (32768 - 1) * 6 / 65536 = 2 ∧ 32768 * 6 / 65536 = 3 ∧ 65535 * 6 / 65536 = 5) ∧
    (∀ h, h ≤ 65535 → (hsvFormula 65536 65535 65535) h 0 32767 = (32767, 32767, 32767)))

/-- The six hue sectors: which hues each holds, and the position of its first and last hue. From 43_hsv_to_rgb.md
section 1. -/
def Obligations.HueSectorArcs : Prop :=
  (∀ q ∈ [(256, [(0, 42, 0, 252), (43, 85, 2, 254), (86, 127, 4, 250), (128, 170, 0, 252), (171, 213, 2, 254), (214, 255, 4, 250)]),
      (360, [(0, 59, 0, 354), (60, 119, 0, 354), (120, 179, 0, 354), (180, 239, 0, 354), (240, 299, 0, 354), (300, 359, 0, 354)]),
      (65536, [(0, 10922, 0, 65532), (10923, 21845, 2, 65534), (21846, 32767, 4, 65530), (32768, 43690, 0, 65532),
        (43691, 54613, 2, 65534), (54614, 65535, 4, 65530)])],
    ∀ h, h < q.1 → ∃ arc ∈ q.2[hueSector q.1 h]?, arc.1 ≤ h ∧ h ≤ arc.2.1) ∧
  (∀ hw ∈ [256, 360, 65536], ∀ h, h < hw → hueSector hw h ≤ 5) ∧
  (∀ q ∈ [(256, [(0, 42, 0, 252), (43, 85, 2, 254), (86, 127, 4, 250), (128, 170, 0, 252), (171, 213, 2, 254), (214, 255, 4, 250)]),
      (360, [(0, 59, 0, 354), (60, 119, 0, 354), (120, 179, 0, 354), (180, 239, 0, 354), (240, 299, 0, 354), (300, 359, 0, 354)]),
      (65536, [(0, 10922, 0, 65532), (10923, 21845, 2, 65534), (21846, 32767, 4, 65530), (32768, 43690, 0, 65532),
        (43691, 54613, 2, 65534), (54614, 65535, 4, 65530)])],
    ∀ arc ∈ q.2, arc.1 * 6 % q.1 = arc.2.2.1 ∧ arc.2.1 * 6 % q.1 = arc.2.2.2)

/-- The six-case hue-wheel table, and every other sector value treated as sector 0. Rules R185. That every sector but 1
to 5, not only 6, is as sector 0 is the spec's decision D18. -/
def Obligations.ChannelAssignmentAndDefensiveSector : Prop :=
  ∀ sector top bot part : Nat,
    (sector = 0 → assignSector sector top bot part = ⟨top, bot + part, bot⟩) ∧
    (sector = 1 → assignSector sector top bot part = ⟨top - part, top, bot⟩) ∧
    (sector = 2 → assignSector sector top bot part = ⟨bot, top, bot + part⟩) ∧
    (sector = 3 → assignSector sector top bot part = ⟨bot, top - part, top⟩) ∧
    (sector = 4 → assignSector sector top bot part = ⟨bot + part, bot, top⟩) ∧
    (sector = 5 → assignSector sector top bot part = ⟨top, bot, top - part⟩) ∧
    (5 < sector → assignSector sector top bot part = assignSector 0 top bot part)

/-- H2R: the largest channel is top, the smallest is bottom, none exceeds max_rgb. From 43_hsv_to_rgb.md section 1;
43_hsv_to_rgb.md section 3. -/
def Obligations.HsvToRgbStaysBetweenBottomAndTop : Prop :=
  ∀ (f : HsvFormat) (w : RgbFormat) (h s v : Nat), h < hWrap f → s ≤ maxSv f → v ≤ maxSv f →
    let t := hsvToRgb f w h s v
    let top := (v * maxRgb w + maxSv f / 2) / maxSv f
    let range := (v * s / maxSv f * maxRgb w + maxSv f / 2) / maxSv f
    range ≤ top ∧ top ≤ maxRgb w ∧
    max t.c2 (max t.c1 t.c0) = top ∧ min t.c2 (min t.c1 t.c0) = top - range ∧
    (v = 0 → t = ⟨0, 0, 0⟩) ∧ (s = 0 → t = ⟨top, top, top⟩) ∧ (s = maxSv f → top - range = 0)

/-- HSV to RGB to HSV gives the value channel back exactly where the RGB width is at least that of the value channel.
From 43_hsv_to_rgb.md section 3; 40_range_rescaler.md section 2. 43_hsv_to_rgb.md R198, the spec's own inference
'[derived: from rule R186; ...]': 'What does hold: the `v` channel always comes back exactly', said there of HSV888
and RGB888; the other pairs are the model's inference from the round-trip exactness of the rescaler
(40_range_rescaler.md R105). -/
def Obligations.ValueSurvivesTheTripThroughRgb : Prop :=
  ∀ q ∈ [(HsvFormat.hsv888, RgbFormat.rgb8), (.hsv888, .rgb16), (.hsvDecimal, .rgb8), (.hsvDecimal, .rgb16), (.hsv32, .rgb8),
      (.hsv32, .rgb16), (.hsv48, .rgb16)],
    ∀ h s v : Nat, h < hWrap q.1 → s ≤ maxSv q.1 → v ≤ maxSv q.1 →
      (rgbToHsv q.1 q.2 (hsvToRgb q.1 q.2 h s v).c2 (hsvToRgb q.1 q.2 h s v).c1 (hsvToRgb q.1 q.2 h s v).c0).c0 = v

/-- Results of R2H.R8.H888, R2H.R16.H888, R2H.R8.HDEC, R2H.R16.HDEC. Rules R220, R221, R222, R223. -/
def Obligations.RgbToHsvOfEightBitAndDecimalHues : Prop :=
  -- R220 R2H.R8.H888
  (TupleRule 0x5000#16 .r2hR8H888 true (fun r g b => r ≤ 255 ∧ g ≤ 255 ∧ b ≤ 255) (255, 255, 255) (rgbFormula 256 255 255) ∧
    ReservedWithoutUnit 0x5000#16 ∧
    TupleOutOfRange .r2hR8H888 (fun r g b => r ≤ 255 ∧ g ≤ 255 ∧ b ≤ 255) ∧
    TakesTuple (rgbFormula 256 255 255) [((0, 0, 0), (0, 0, 0)), ((255, 255, 255), (0, 0, 255)), ((128, 128, 128), (0, 0, 128)), ((255, 0, 0), (0, 255, 255)), ((255, 255, 0), (42, 255, 255)), ((0, 255, 0), (85, 255, 255)), ((0, 255, 255), (128, 255, 255)), ((0, 0, 255), (170, 255, 255)), ((255, 0, 255), (213, 255, 255)), ((255, 0, 1), (255, 255, 255)), ((1, 0, 0), (0, 255, 1)), ((255, 254, 255), (213, 1, 255)), ((2, 1, 1), (0, 128, 2)), ((114, 143, 170), (148, 84, 170))] ∧
    (∀ r g b, r ≤ 255 → g ≤ 255 → b ≤ 255 → ((rgbFormula 256 255 255) r g b).1 ≤ 255)) ∧
  -- R221 R2H.R16.H888
  (TupleRule 0x5001#16 .r2hR16H888 true (fun r g b => r ≤ 65535 ∧ g ≤ 65535 ∧ b ≤ 65535) (255, 255, 255) (rgbFormula 256 255 65535) ∧
    ReservedWithoutUnit 0x5001#16 ∧
    TakesTuple (rgbFormula 256 255 65535) [((0, 0, 0), (0, 0, 0)), ((65535, 65535, 65535), (0, 0, 255)), ((32768, 32768, 32768), (0, 0, 128)), ((65535, 0, 0), (0, 255, 255)), ((65535, 65535, 0), (42, 255, 255)), ((0, 65535, 0), (85, 255, 255)), ((0, 65535, 65535), (128, 255, 255)), ((0, 0, 65535), (170, 255, 255)), ((65535, 0, 65535), (213, 255, 255)), ((65535, 0, 1), (255, 255, 255)), ((1, 0, 0), (0, 255, 0)), ((65535, 65534, 65535), (213, 0, 255)), ((2, 1, 1), (0, 128, 0)), ((29298, 36607, 43690), (148, 84, 170))] ∧
    (∀ r g b, r ≤ 65535 → g ≤ 65535 → b ≤ 65535 → ((rgbFormula 256 255 65535) r g b).1 ≤ 255)) ∧
  -- R222 R2H.R8.HDEC
  (TupleRule 0x5100#16 .r2hR8Hdec true (fun r g b => r ≤ 255 ∧ g ≤ 255 ∧ b ≤ 255) (359, 100, 100) (rgbFormula 360 100 255) ∧
    ReservedWithoutUnit 0x5100#16 ∧
    TupleOutOfRange .r2hR8Hdec (fun r g b => r ≤ 255 ∧ g ≤ 255 ∧ b ≤ 255) ∧
    TakesTuple (rgbFormula 360 100 255) [((0, 0, 0), (0, 0, 0)), ((255, 255, 255), (0, 0, 100)), ((128, 128, 128), (0, 0, 50)), ((255, 0, 0), (0, 100, 100)), ((255, 255, 0), (60, 100, 100)), ((0, 255, 0), (120, 100, 100)), ((0, 255, 255), (180, 100, 100)), ((0, 0, 255), (240, 100, 100)), ((255, 0, 255), (300, 100, 100)), ((255, 0, 1), (359, 100, 100)), ((1, 0, 0), (0, 100, 0)), ((255, 254, 255), (300, 0, 100)), ((2, 1, 1), (0, 50, 1)), ((114, 143, 170), (208, 33, 67))] ∧
    (∀ r g b, r ≤ 255 → g ≤ 255 → b ≤ 255 → ((rgbFormula 360 100 255) r g b).1 ≤ 359)) ∧
  -- R223 R2H.R16.HDEC
  (TupleRule 0x5101#16 .r2hR16Hdec true (fun r g b => r ≤ 65535 ∧ g ≤ 65535 ∧ b ≤ 65535) (359, 100, 100) (rgbFormula 360 100 65535) ∧
    ReservedWithoutUnit 0x5101#16 ∧
    TakesTuple (rgbFormula 360 100 65535) [((0, 0, 0), (0, 0, 0)), ((65535, 65535, 65535), (0, 0, 100)), ((32768, 32768, 32768), (0, 0, 50)), ((65535, 0, 0), (0, 100, 100)), ((65535, 65535, 0), (60, 100, 100)), ((0, 65535, 0), (120, 100, 100)), ((0, 65535, 65535), (180, 100, 100)), ((0, 0, 65535), (240, 100, 100)), ((65535, 0, 65535), (300, 100, 100)), ((65535, 0, 1), (359, 100, 100)), ((1, 0, 0), (0, 100, 0)), ((65535, 65534, 65535), (300, 0, 100)), ((2, 1, 1), (0, 50, 0)), ((29298, 36607, 43690), (209, 33, 67))] ∧
    (∀ r g b, r ≤ 65535 → g ≤ 65535 → b ≤ 65535 → ((rgbFormula 360 100 65535) r g b).1 ≤ 359))

/-- Results of R2H.R8.H32, R2H.R16.H32, R2H.R8.H48, R2H.R16.H48. Rules R224, R225, R226, R227. -/
def Obligations.RgbToHsvOfSixteenBitHues : Prop :=
  -- R224 R2H.R8.H32
  (TupleRule 0x5200#16 .r2hR8H32 true (fun r g b => r ≤ 255 ∧ g ≤ 255 ∧ b ≤ 255) (65535, 255, 255) (rgbFormula 65536 255 255) ∧
    ReservedWithoutUnit 0x5200#16 ∧
    TupleOutOfRange .r2hR8H32 (fun r g b => r ≤ 255 ∧ g ≤ 255 ∧ b ≤ 255) ∧
    TakesTuple (rgbFormula 65536 255 255) [((0, 0, 0), (0, 0, 0)), ((255, 255, 255), (0, 0, 255)), ((128, 128, 128), (0, 0, 128)), ((255, 0, 0), (0, 255, 255)), ((255, 255, 0), (10922, 255, 255)), ((0, 255, 0), (21845, 255, 255)), ((0, 255, 255), (32768, 255, 255)), ((0, 0, 255), (43690, 255, 255)), ((255, 0, 255), (54613, 255, 255)), ((255, 0, 1), (65493, 255, 255)), ((1, 0, 0), (0, 255, 1)), ((255, 254, 255), (54613, 1, 255)), ((2, 1, 1), (0, 128, 2)), ((114, 143, 170), (38034, 84, 170))] ∧
    (∀ r g b, r ≤ 255 → g ≤ 255 → b ≤ 255 → ((rgbFormula 65536 255 255) r g b).1 ≤ 65493)) ∧
  -- R225 R2H.R16.H32
  (TupleRule 0x5201#16 .r2hR16H32 true (fun r g b => r ≤ 65535 ∧ g ≤ 65535 ∧ b ≤ 65535) (65535, 255, 255) (rgbFormula 65536 255 65535) ∧
    ReservedWithoutUnit 0x5201#16 ∧
    TakesTuple (rgbFormula 65536 255 65535) [((0, 0, 0), (0, 0, 0)), ((65535, 65535, 65535), (0, 0, 255)), ((32768, 32768, 32768), (0, 0, 128)), ((65535, 0, 0), (0, 255, 255)), ((65535, 65535, 0), (10922, 255, 255)), ((0, 65535, 0), (21845, 255, 255)), ((0, 65535, 65535), (32768, 255, 255)), ((0, 0, 65535), (43690, 255, 255)), ((65535, 0, 65535), (54613, 255, 255)), ((65535, 0, 1), (65535, 255, 255)), ((1, 0, 0), (0, 255, 0)), ((65535, 65534, 65535), (54613, 0, 255)), ((2, 1, 1), (0, 128, 0)), ((29298, 36607, 43690), (38143, 84, 170))] ∧
    (∀ r g b, r ≤ 65535 → g ≤ 65535 → b ≤ 65535 → ((rgbFormula 65536 255 65535) r g b).1 ≤ 65535)) ∧
  -- R226 R2H.R8.H48
  (TupleRule 0x5300#16 .r2hR8H48 true (fun r g b => r ≤ 255 ∧ g ≤ 255 ∧ b ≤ 255) (65535, 65535, 65535) (rgbFormula 65536 65535 255) ∧
    ReservedWithoutUnit 0x5300#16 ∧
    TupleOutOfRange .r2hR8H48 (fun r g b => r ≤ 255 ∧ g ≤ 255 ∧ b ≤ 255) ∧
    TakesTuple (rgbFormula 65536 65535 255) [((0, 0, 0), (0, 0, 0)), ((255, 255, 255), (0, 0, 65535)), ((128, 128, 128), (0, 0, 32896)), ((255, 0, 0), (0, 65535, 65535)), ((255, 255, 0), (10922, 65535, 65535)), ((0, 255, 0), (21845, 65535, 65535)), ((0, 255, 255), (32768, 65535, 65535)), ((0, 0, 255), (43690, 65535, 65535)), ((255, 0, 255), (54613, 65535, 65535)), ((255, 0, 1), (65493, 65535, 65535)), ((1, 0, 0), (0, 65535, 257)), ((255, 254, 255), (54613, 257, 65535)), ((2, 1, 1), (0, 32768, 514)), ((114, 143, 170), (38034, 21588, 43690))] ∧
    (∀ r g b, r ≤ 255 → g ≤ 255 → b ≤ 255 → ((rgbFormula 65536 65535 255) r g b).1 ≤ 65493)) ∧
  -- R227 R2H.R16.H48
  (TupleRule 0x5301#16 .r2hR16H48 true (fun r g b => r ≤ 65535 ∧ g ≤ 65535 ∧ b ≤ 65535) (65535, 65535, 65535) (rgbFormula 65536 65535 65535) ∧
    ReservedWithoutUnit 0x5301#16 ∧
    TakesTuple (rgbFormula 65536 65535 65535) [((0, 0, 0), (0, 0, 0)), ((65535, 65535, 65535), (0, 0, 65535)), ((32768, 32768, 32768), (0, 0, 32768)), ((65535, 0, 0), (0, 65535, 65535)), ((65535, 65535, 0), (10922, 65535, 65535)), ((0, 65535, 0), (21845, 65535, 65535)), ((0, 65535, 65535), (32768, 65535, 65535)), ((0, 0, 65535), (43690, 65535, 65535)), ((65535, 0, 65535), (54613, 65535, 65535)), ((65535, 0, 1), (65535, 65535, 65535)), ((1, 0, 0), (0, 65535, 1)), ((65535, 65534, 65535), (54613, 1, 65535)), ((2, 1, 1), (0, 32768, 2)), ((29298, 36607, 43690), (38143, 21588, 43690))] ∧
    (∀ r g b, r ≤ 65535 → g ≤ 65535 → b ≤ 65535 → ((rgbFormula 65536 65535 65535) r g b).1 ≤ 65535))

/-- R2H: hue below h_wrap, saturation and value at most max_sv, and the widths that suffice. From 44_rgb_to_hsv.md
section 1. -/
def Obligations.HueSaturationAndValueStayInRange : Prop :=
  (∀ (f : HsvFormat) (w : RgbFormat) (r g b : Nat), r ≤ maxRgb w → g ≤ maxRgb w → b ≤ maxRgb w →
    let t := rgbToHsv f w r g b
    let top := max r (max g b)
    let bot := min r (min g b)
    let term := hueTerm r g b top bot (top - bot)
    t.c2 ≤ (6 * maxRgb w - 1) * hWrap f / (6 * maxRgb w) ∧ t.c2 < hWrap f ∧ t.c1 ≤ maxSv f ∧ t.c0 ≤ maxSv f ∧
    (bot < top → term < 6 * (top - bot)) ∧
    top * maxSv f + maxRgb w / 2 < 2 ^ 32 ∧ (top - bot) * maxSv f + top / 2 < 2 ^ 32 ∧
    (bot < top → term ≤ 393209 ∧ term * hWrap f < 2 ^ 35) ∧ (top - bot) * 6 < 2 ^ 19) ∧
  (∀ (f : HsvFormat) (w : RgbFormat), (rgbToHsv f w (maxRgb w) 0 1).c2 = (6 * maxRgb w - 1) * hWrap f / (6 * maxRgb w))

/-- The six rows of the hue table: every row whose condition holds gives the hue, but for red-side grays of row 6. From
44_rgb_to_hsv.md section 1. -/
def Obligations.TiedRowsGiveTheSameHue : Prop :=
  (∀ r g b : Nat,
    let top := max r (max g b)
    let bot := min r (min g b)
    let range := top - bot
    bot < top →
    (r = top ∧ b = bot → hueTerm r g b top bot range = g - bot) ∧
    (g = top ∧ b = bot → hueTerm r g b top bot range = top - r + range) ∧
    (g = top ∧ r = bot → hueTerm r g b top bot range = b - bot + 2 * range) ∧
    (b = top ∧ r = bot → hueTerm r g b top bot range = top - g + 3 * range) ∧
    (b = top ∧ g = bot → hueTerm r g b top bot range = r - bot + 4 * range) ∧
    (r = top ∧ g = bot ∧ b ≠ bot → hueTerm r g b top bot range = top - b + 5 * range)) ∧
  (∀ x y : Nat, y < x → hueTerm x y y x y (x - y) = 0)

/-- Every gray gives hue 0, saturation 0 and the rescaled value, in all eight R2H instructions. Rules R212. What
`rescale(top)` is, the spec states as its decision D27. -/
def Obligations.GraysHaveNoHueAndNoSaturation : Prop :=
  ∀ (s : State) (x : Lane),
    (x.toNat ≤ 255 →
      exec (.r2hR8H888 x x x) s = .next (answered s (BitVec.ofNat 48 ((x.toNat * 255 + 127) / 255))) ∧
      exec (.r2hR8Hdec x x x) s = .next (answered s (BitVec.ofNat 48 ((x.toNat * 100 + 127) / 255))) ∧
      exec (.r2hR8H32 x x x) s = .next (answered s (BitVec.ofNat 48 ((x.toNat * 255 + 127) / 255))) ∧
      exec (.r2hR8H48 x x x) s = .next (answered s (BitVec.ofNat 48 ((x.toNat * 65535 + 127) / 255)))) ∧
    exec (.r2hR16H888 x x x) s = .next (answered s (BitVec.ofNat 48 ((x.toNat * 255 + 32767) / 65535))) ∧
    exec (.r2hR16Hdec x x x) s = .next (answered s (BitVec.ofNat 48 ((x.toNat * 100 + 32767) / 65535))) ∧
    exec (.r2hR16H32 x x x) s = .next (answered s (BitVec.ofNat 48 ((x.toNat * 255 + 32767) / 65535))) ∧
    exec (.r2hR16H48 x x x) s = .next (answered s (BitVec.ofNat 48 ((x.toNat * 65535 + 32767) / 65535)))

/-- Every instruction, from every state and with every operand, answers with exactly one response and changes nothing
else. From 60_exceptions.md section 1; 10_state.md section 1. The list of responses and the draw counter are the
model's choices (logs 19, 6). -/
def Obligations.EveryCommandIsAnsweredWithOneResponse : Prop :=
  ∀ (i : Instr) (s : State), ∃ (r : Response) (d : Nat),
    exec i s = .next { s with rspPort := some r, responses := s.responses ++ [r], draws := s.draws + d } ∧ d ≤ 1 ∧
    (d = 1 ↔ i.wellFormed = false)

/-- A step executes the oldest due command as decoded, waits while it is not due, and refuses a reserved encoding. From
10_state.md section 3; 30_encoding.md section 4; 70_reset_and_hazards.md section 5. These are the model's choices
and not the sections': one host event and then at most one answer in a step (log 1), a delay held for each command
that a step shortens by one (logs 3, 15), and a port that is none in every step that answers nothing (log 5). -/
def Obligations.StepRunsTheDecodedCommand : Prop :=
  (∀ (s : State) (p : PendingCommand) (rest : List PendingCommand) (i : Instr),
    (takeEvent s).inFlight = p :: rest → p.wait = 0 → decode s.hasR2H p.word = .ok i →
    step s = exec i { takeEvent s with inFlight := rest.map PendingCommand.age, rspPort := none }) ∧
  (∀ (s : State) (w : Command) (rest : List HostEvent) (i : Instr),
    s.host = .present w :: rest → s.inFlight = [] → s.latencies.headD 0 = 0 → decode s.hasR2H w = .ok i →
    step s = exec i { s with host := rest, latencies := s.latencies.tail, rspPort := none }) ∧
  (∀ (s : State) (p : PendingCommand) (rest : List PendingCommand),
    (takeEvent s).inFlight = p :: rest → p.wait ≠ 0 →
    step s = .next { takeEvent s with inFlight := (p :: rest).map PendingCommand.age, rspPort := none }) ∧
  (∀ s : State, (takeEvent s).inFlight = [] → step s = .next { takeEvent s with rspPort := none }) ∧
  (∀ (s : State) (p : PendingCommand) (rest : List PendingCommand) (why : ReservedReason),
    (takeEvent s).inFlight = p :: rest → p.wait = 0 → decode s.hasR2H p.word = .error why →
    step s = .refused (.reservedEncoding why))

/-- The contract violations are exactly the listed operands; they are answered, leave no trace, and only they draw. From
60_exceptions.md section 1. The list of responses and the draw counter are the model's choices (logs 19, 6). -/
def Obligations.ContractViolationsAreTheListedOperands : Prop :=
  (∀ i : Instr, i.wellFormed = false ↔ Violates i) ∧
  (∀ (i : Instr) (s : State), Violates i → ∃ r, exec i s = .next (violated s r)) ∧
  (∀ (i : Instr) (s : State), ¬ Violates i → ∃ r, exec i s = .next (answered s r))

/-- The response to a command is a function of that command alone. From 20_memory.md section 3. -/
def Obligations.ResponseDependsOnTheCommandAlone : Prop :=
  ∀ (i : Instr), i.wellFormed = true → ∀ (s u : State), s.gammaMode = u.gammaMode →
    ∃ r, exec i s = .next (answered s r) ∧ exec i u = .next (answered u r)

/-- cmd[47:16] of a scalar command is ignored, and the operand is all of cmd[15:0], never truncated. From 30_encoding.md
section 1; 30_encoding.md section 2. 30_encoding.md R60 and R67 (decision D6) say that cmd[47:16] is ignored and
that X is all of cmd[15:0]; that the instruction carries the ignored bits and the encoder writes them back is the
model's choice (log 10), and so is the draw counter (log 6). -/
def Obligations.IgnoredBitsChangeNothing : Prop :=
  (∀ mk ∈ scalarInstrs, ∀ (s : State) (a b : Ignored) (x : Lane),
    ((mk a x).wellFormed = (mk b x).wellFormed) ∧ ((mk a x).wellFormed = true → exec (mk a x) s = exec (mk b x) s)) ∧
  (∀ (s : State) (ign : Ignored), ∃ r, exec (.rsU5U8 ign 0x0120) s = .next (violated s r)) ∧
  (∀ mk ∈ scalarInstrs, ∀ (ign : Ignored) (x : Lane),
    (encode (mk ign x)).extractLsb' 16 32 = ign ∧ (encode (mk ign x)).extractLsb' 0 16 = x) ∧
  scalarInstrs.length = 30

/-- A scalar response is the result zero-extended: lanes 1 and 2 are zero. From 30_encoding.md section 1. -/
def Obligations.ScalarResponsesFillLaneZeroOnly : Prop :=
  ∀ mk ∈ scalarInstrs, ∀ (s : State) (ign : Ignored) (x : Lane), (mk ign x).wellFormed = true →
    ∃ y, y < 2 ^ 16 ∧ exec (mk ign x) s = .next (answered s (BitVec.ofNat 48 y)) ∧
      (BitVec.ofNat 48 y).extractLsb' 16 32 = 0#32

/-- While the host keeps the caller contract, every step is a next step, the contract stays kept, and nothing is drawn.
From 70_reset_and_hazards.md section 2; 60_exceptions.md section 1. The host list, the step and the draw counter are
the model's choices (logs 1, 2, 6). -/
def Obligations.HonestHostIsNeverStopped : Prop :=
  ∀ s : State, s.contractKept = true →
    ∃ t, step s = .next t ∧ t.contractKept = true ∧ t.draws = s.draws

/-- After reset nothing is in flight, rsp_valid is 0, the parameters are at their defaults, and both invariants hold.
From 10_state.md section 5; 00_scope.md section 4. That the parameters stand in the state is the model's choice
(logs 7, 8); the defaults are those of 00_scope.md section 4. That the contract is kept right after reset holds
because the host list is empty there, the model's choice (log 2); so are the empty response list (log 19) and the
port as an Option (log 5). -/
def Obligations.ResetStateIsQuiet : Prop :=
  State.reset.inFlight = [] ∧ State.reset.rspPort = none ∧ State.reset.hasR2H = true ∧ State.reset.gammaMode = .exact ∧
  State.reset.contractKept = true ∧ State.reset.portShowsLast = true

/-- Reset drops the commands in flight without response, and rsp_valid stays 0 until a command presented after it is
answered. From 10_state.md section 5; 70_reset_and_hazards.md section 1. 10_state.md R37 and 70_reset_and_hazards.md
R280 (decision D23) say what is dropped and that rsp_valid stays 0; that reset is an event of the host list, which
keeps the observation, the delays, the draws and the parameters, is the model's choice (log 13), as are the step
(log 1) and the idle step (log 15). -/
def Obligations.ResetDropsCommandsUntilTheNextAnswer : Prop :=
  (∀ (s : State) (rest : List HostEvent) (n k : Nat), s.host = .reset :: (List.replicate n .idle ++ rest) → k ≤ n →
    Host.Core.run Sys2Proof.core (k + 1) s =
      .next { s with host := List.replicate (n - k) .idle ++ rest, inFlight := [], rspPort := none }) ∧
  (∀ (s t : State) (rest : List HostEvent) (k : Nat), s.host = .reset :: rest → Host.Core.run Sys2Proof.core (k + 1) s = .next t →
    t.responses = s.responses → t.rspPort = none) ∧
  (State.reset.inFlight = [] ∧ State.reset.rspPort = none)

/-- Every step keeps the response port showing the response given last. From 10_state.md section 3;
70_reset_and_hazards.md section 5. The port as an Option and the list of responses are the model's choices (logs 5,
19). -/
def Obligations.StepKeepsPortShowingLastResponse : Prop :=
  ∀ s t : State, s.portShowsLast = true → step s = .next t → t.portShowsLast = true

/-- A step changes no parameter, takes one host event, and adds to the observation exactly what the port then shows.
From 10_state.md section 3; 70_reset_and_hazards.md section 5. These are the model's choices and not the sections':
one host event in a step (logs 1, 2), a port that shows this step's response only (log 5), the list of responses
(log 19), the draw counter (log 6), and the parameters as fields no step changes (logs 7, 8). -/
def Obligations.StepExtendsTheObservationByThePort : Prop :=
  ∀ s t : State, step s = .next t →
    t.hasR2H = s.hasR2H ∧ t.gammaMode = s.gammaMode ∧ t.host = s.host.tail ∧
    t.responses = s.responses ++ t.rspPort.toList ∧
    (s.draws = t.draws ∨ (s.draws + 1 = t.draws ∧ t.rspPort ≠ none))

/-- A command presented to an empty queue is answered exactly LATENCY steps later, with the same response whatever the
latency. From 10_state.md section 3; 70_reset_and_hazards.md section 4. That a delay is held for each command in the
state is the model's choice (log 3); so are the step (log 1), the host list (log 2), the port as an Option (log 5)
and the list of responses (log 19). -/
def Obligations.LatencyDelaysTheResponse : Prop :=
  ∀ (s : State) (w : Command) (rest : List HostEvent) (n : Nat) (later : List Nat),
    s.inFlight = [] → s.host = .present w :: rest → HostEvent.reset ∉ rest → s.latencies = n :: later →
    contractWord s.hasR2H w = true →
    (∀ k, k < n → ∃ t, Host.Core.run Sys2Proof.core (k + 1) s = .next t ∧ t.rspPort = none ∧ t.responses = s.responses) ∧
    (∃ t, Host.Core.run Sys2Proof.core (n + 1) s = .next t ∧ t.rspPort = some (commandResponse s w) ∧
      t.responses = s.responses ++ [commandResponse s w])

/-- Every run of a contract-keeping host answers every command, once, in command order, whatever the latencies. From
10_state.md section 3; 20_memory.md section 3; 70_reset_and_hazards.md sections 4 and 5. The steps of a run, the
host list, the delays and the list of responses are the model's choices (logs 1, 2, 3, 19). -/
def Obligations.RunAnswersEveryCommandInOrder : Prop :=
  ∀ s : State, s.contractKept = true → HostEvent.reset ∉ s.host →
    let want := s.responses ++ (s.inFlight.map (·.word) ++ s.host.filterMap presentedWord).map (commandResponse s)
    (∀ k, ∃ t, Host.Core.run Sys2Proof.core k s = .next t ∧ t.responses <+: want) ∧
    (∃ k t, Host.Core.run Sys2Proof.core k s = .next t ∧ t.responses = want ∧ t.inFlight = [] ∧ t.host = [])

/-- Zero maps to zero in every operation. From 10_state.md section 4. 10_state.md R32; how the invariant holds of H2R
and R2H is the spec's own inference: '[derived: from 40_range_rescaler.md rules R101 to R104, ...]'. -/
def Obligations.ZeroMapsToZero : Prop :=
  ∀ s : State,
    (∀ mk ∈ scalarInstrs, ∀ ign, exec (mk ign 0) s = .next (answered s 0)) ∧
    (∀ q ∈ hsvInstrs, exec (q.1 0 0 0) s = .next (answered s 0) ∧
      ∀ h sat : Lane, h.toNat < hWrap q.2.1 → sat.toNat ≤ maxSv q.2.1 → exec (q.1 h sat 0) s = .next (answered s 0)) ∧
    (∀ q ∈ rgbInstrs, exec (q.1 0 0 0) s = .next (answered s 0)) ∧
    exec (.r2hR8H888 0 255 0) s = .next (answered s 0x005500FF00FF#48)

/-- Maximum maps to maximum in every non-angle rescale, every gamma operation and the value channel of H2R and R2H.
Rules R33. -/
def Obligations.MaximumMapsToMaximum : Prop :=
  ∀ s : State,
    (∀ q ∈ [(Instr.rsU5U8, 31, 255), (.rsU8U5, 255, 31), (.rsU5U16, 31, 65535), (.rsU16U5, 65535, 31), (.rsU6U8, 63, 255),
        (.rsU8U6, 255, 63), (.rsU6U16, 63, 65535), (.rsU16U6, 65535, 63), (.rsU8U8, 255, 255), (.rsU8U8I, 255, 255),
        (.rsU8U16, 255, 65535), (.rsU16U8, 65535, 255), (.rsU16U16, 65535, 65535), (.rsU16U16I, 65535, 65535),
        (.rsPctU8, 100, 255), (.rsU8Pct, 255, 100), (.rsPctU16, 100, 65535), (.rsU16Pct, 65535, 100),
        (.gdG8L8, 255, 255), (.gdG8L16, 255, 65535), (.gdG16L16, 65535, 65535), (.geL8G8, 255, 255), (.geL16G8, 65535, 255),
        (.geL16G16, 65535, 65535)],
      ∀ ign, exec (q.1 ign (BitVec.ofNat 16 q.2.1)) s = .next (answered s (BitVec.ofNat 48 q.2.2))) ∧
    (∀ q ∈ hsvInstrs, ∀ h sat : Lane, h.toNat < hWrap q.2.1 → sat.toNat ≤ maxSv q.2.1 →
      ∃ r, exec (q.1 h sat (BitVec.ofNat 16 (maxSv q.2.1))) s = .next (answered s r) ∧
        max (rspLane2 r).toNat (max (rspLane1 r).toNat (rspLane0 r).toNat) = maxRgb q.2.2) ∧
    (∀ q ∈ rgbInstrs, ∀ r g b : Lane, r.toNat ≤ maxRgb q.2.2 → g.toNat ≤ maxRgb q.2.2 → b.toNat ≤ maxRgb q.2.2 →
      max r.toNat (max g.toNat b.toNat) = maxRgb q.2.2 →
      ∃ a, exec (q.1 r g b) s = .next (answered s a) ∧ (rspLane0 a).toNat = maxSv q.2.1)

/-- Every scalar operation is non-decreasing, but for the wrap of RS.A16.DEG and RS.A16.A8. Rules R35. -/
def Obligations.ScalarOperationsAreMonotone : Prop :=
  (∀ mk ∈ [Instr.rsU5U8, .rsU8U5, .rsU5U16, .rsU16U5, .rsU6U8, .rsU8U6, .rsU6U16, .rsU16U6,
      .rsU8U8, .rsU8U8I, .rsU8U16, .rsU16U8, .rsU16U16, .rsU16U16I, .rsPctU8, .rsU8Pct,
      .rsPctU16, .rsU16Pct, .rsA8Deg, .rsDegA8, .rsDegA16, .rsA8A16, .gdG8L8, .gdG8L16,
      .gdG16L16, .geL8G8, .geL16G8, .geL16G16],
    ∀ (s : State) (ign : Ignored) (x y : Lane), x ≤ y → (mk ign x).wellFormed = true → (mk ign y).wellFormed = true →
      ∃ p q, exec (mk ign x) s = .next (answered s p) ∧ exec (mk ign y) s = .next (answered s q) ∧ p ≤ q) ∧
  (∀ mk ∈ [Instr.rsA16Deg, .rsA16A8], ∀ (s : State) (ign : Ignored), ∃ (x y : Lane) (p q : Response), x ≤ y ∧
      exec (mk ign x) s = .next (answered s p) ∧ exec (mk ign y) s = .next (answered s q) ∧ q < p ∧ q = 0)

/-- All 72 conversions between representations take black to black and white to white. From 95_test_vectors.md section
5.1; 45_compositions.md section 3. CVT is host-side and outside the CORE (log 16). -/
def Obligations.ConversionsKeepBlackAndWhite : Prop :=
  ∀ (s : State) (a b : Rep), s.hasR2H = true → a ≠ b →
    (∃ t, convert a b (blackOf a) s = some (blackOf b, t)) ∧ (∃ t, convert a b (whiteOf a) s = some (whiteOf b, t))

/-- Of the 72 conversions 42 are direct and 30 go through one intermediate; without R2H exactly 20 have no route. From
45_compositions.md section 3. CVT is host-side and outside the CORE (log 16). -/
def Obligations.ConversionRoutesHaveAtMostOneIntermediate : Prop :=
  (∀ a b : Rep, a ≠ b → ∃ gs, route true a b = some gs ∧ (gs.length = 1 ∨ gs.length = 2)) ∧
  ((allReps.flatMap (fun a => allReps.map (route true a))).filter (fun g => (g.map List.length) == some 1)).length = 42 ∧
  ((allReps.flatMap (fun a => allReps.map (route true a))).filter (fun g => (g.map List.length) == some 2)).length = 30 ∧
  (∀ a b : Rep, a ≠ b → (((route false a b).map List.length) = none ↔
    (a ∈ [Rep.p565, .rgb888, .rgb16, .lin888, .lin16] ∧ b ∈ [Rep.hsv888, .hsvDecimal, .hsv32, .hsv48])))
end

