-- ==== Sys2Proof/Laws/Encoding.lean ====
section
/-! SUPPORT. The fields of the two formats read back what they were built from, and response lanes likewise. -/

namespace Sys2Proof

@[simp] theorem opcodeField_wordS (opc : Opcode) (ign : Ignored) (x : Lane) : opcodeField (wordS opc ign x) = opc := by
  ext k hk
  simp only [opcodeField, wordS, BitVec.getElem_extractLsb', BitVec.getLsbD_append]
  simp [show ¬ 48 + k < 16 by omega, show ¬ 48 + k - 16 < 32 by omega, show 48 + k - 16 - 32 = k by omega, hk]

@[simp] theorem ignoredField_wordS (opc : Opcode) (ign : Ignored) (x : Lane) : ignoredField (wordS opc ign x) = ign := by
  ext k hk
  simp only [ignoredField, wordS, BitVec.getElem_extractLsb', BitVec.getLsbD_append]
  simp [show ¬ 16 + k < 16 by omega, show 16 + k - 16 = k by omega, hk]

@[simp] theorem lane0_wordS (opc : Opcode) (ign : Ignored) (x : Lane) : lane0 (wordS opc ign x) = x := by
  ext k hk
  simp only [lane0, wordS, BitVec.getElem_extractLsb', BitVec.getLsbD_append]
  simp [hk]

@[simp] theorem opcodeField_wordT (opc : Opcode) (c2 c1 c0 : Lane) : opcodeField (wordT opc c2 c1 c0) = opc := by
  ext k hk
  simp only [opcodeField, wordT, BitVec.getElem_extractLsb', BitVec.getLsbD_append]
  simp [show ¬ 48 + k < 16 by omega, show ¬ 48 + k - 16 < 16 by omega, show ¬ 48 + k - 16 - 16 < 16 by omega,
    show 48 + k - 16 - 16 - 16 = k by omega, hk]

@[simp] theorem lane2_wordT (opc : Opcode) (c2 c1 c0 : Lane) : lane2 (wordT opc c2 c1 c0) = c2 := by
  ext k hk
  simp only [lane2, wordT, BitVec.getElem_extractLsb', BitVec.getLsbD_append]
  simp [show ¬ 32 + k < 16 by omega, show ¬ 32 + k - 16 < 16 by omega, show 32 + k - 16 - 16 = k by omega, hk]

@[simp] theorem lane1_wordT (opc : Opcode) (c2 c1 c0 : Lane) : lane1 (wordT opc c2 c1 c0) = c1 := by
  ext k hk
  simp only [lane1, wordT, BitVec.getElem_extractLsb', BitVec.getLsbD_append]
  simp [show ¬ 16 + k < 16 by omega, show 16 + k - 16 = k by omega, hk]

@[simp] theorem lane0_wordT (opc : Opcode) (c2 c1 c0 : Lane) : lane0 (wordT opc c2 c1 c0) = c0 := by
  ext k hk
  simp only [lane0, wordT, BitVec.getElem_extractLsb', BitVec.getLsbD_append]
  simp [hk]

/-- A word is its opcode, its ignored bits and its operand, read as format S. -/
theorem wordS_of_fields (w : Command) : wordS (opcodeField w) (ignoredField w) (lane0 w) = w := by
  apply BitVec.eq_of_getLsbD_eq
  intro k hk
  simp only [wordS, opcodeField, ignoredField, lane0, BitVec.getLsbD_append, BitVec.getLsbD_extractLsb']
  by_cases h : k < 16
  · simp [h]
  · by_cases h2 : k - 16 < 32
    · simp [h, h2, show 16 + (k - 16) = k by omega]
    · simp [h, h2, show k - 16 - 32 < 16 by omega, show 48 + (k - 16 - 32) = k by omega]

/-- A word is its opcode and its three lanes, read as format T. -/
theorem wordT_of_fields (w : Command) : wordT (opcodeField w) (lane2 w) (lane1 w) (lane0 w) = w := by
  apply BitVec.eq_of_getLsbD_eq
  intro k hk
  simp only [wordT, opcodeField, lane2, lane1, lane0, BitVec.getLsbD_append, BitVec.getLsbD_extractLsb']
  by_cases h : k < 16
  · simp [h]
  · by_cases h2 : k - 16 < 16
    · simp [h, h2, show 16 + (k - 16) = k by omega]
    · by_cases h3 : k - 16 - 16 < 16
      · simp [h, h2, h3, show 32 + (k - 16 - 16) = k by omega]
      · simp [h, h2, h3, show k - 16 - 16 - 16 < 16 by omega, show 48 + (k - 16 - 16 - 16) = k by omega]

namespace Machine

@[simp] theorem rspLane0_scalarResponse (y : Nat) : rspLane0 (scalarResponse y) = BitVec.ofNat 16 y := by
  ext k hk
  simp [rspLane0, scalarResponse, hk, show k < 48 by omega]

/-- The scalar response of a 16-bit result is that result as a 48-bit word (30_encoding.md R61). -/
theorem scalarResponse_toNat {y : Nat} (h : y < 2 ^ 16) : (scalarResponse y).toNat = y := by
  simp [scalarResponse]
  omega

@[simp] theorem rspLane2_tupleResponse (t : Tuple) : rspLane2 (tupleResponse t) = BitVec.ofNat 16 t.c2 := by
  ext k hk
  simp only [rspLane2, tupleResponse, BitVec.getElem_extractLsb', BitVec.getLsbD_append]
  simp [show ¬ 32 + k < 16 by omega, show ¬ 32 + k - 16 < 16 by omega, show 32 + k - 16 - 16 = k by omega, hk]

@[simp] theorem rspLane1_tupleResponse (t : Tuple) : rspLane1 (tupleResponse t) = BitVec.ofNat 16 t.c1 := by
  ext k hk
  simp only [rspLane1, tupleResponse, BitVec.getElem_extractLsb', BitVec.getLsbD_append]
  simp [show ¬ 16 + k < 16 by omega, show 16 + k - 16 = k by omega, hk]

@[simp] theorem rspLane0_tupleResponse (t : Tuple) : rspLane0 (tupleResponse t) = BitVec.ofNat 16 t.c0 := by
  ext k hk
  simp only [rspLane0, tupleResponse, BitVec.getElem_extractLsb', BitVec.getLsbD_append]
  simp [hk]

end Machine

end Sys2Proof
end

