-- ==== Sys2Proof/Laws/Gamma.lean ====
section
/-! SUPPORT. The bitwise search finds the largest number its test holds at, and the rounding operation brackets its quotient. -/

namespace Sys2Proof.Machine

/-- The search never goes below where it started and stays below the next power of two. -/
theorem greatestFrom_bounds (p : Nat → Bool) (k acc : Nat) :
    acc ≤ greatestFrom p k acc ∧ greatestFrom p k acc < acc + 2 ^ k := by
  induction k generalizing acc with
  | zero => simp [greatestFrom]
  | succ k ih =>
    simp only [greatestFrom, pow_succ]
    split
    · have h := ih (acc + 2 ^ k); omega
    · have h := ih acc; omega

/-- The test holds where the search ends, if it held where it started. -/
theorem greatestFrom_holds (p : Nat → Bool) (k acc : Nat) (h : p acc = true) : p (greatestFrom p k acc) = true := by
  induction k generalizing acc with
  | zero => simpa [greatestFrom] using h
  | succ k ih =>
    simp only [greatestFrom]
    apply ih
    split <;> simp_all

/-- For a test that is downward closed, no number in reach above the search's answer passes it. -/
theorem greatestFrom_largest (p : Nat → Bool) (down : ∀ a b, a ≤ b → p b = true → p a = true) (k acc y : Nat)
    (hy : p y = true) (hlt : y < acc + 2 ^ k) : y ≤ greatestFrom p k acc := by
  induction k generalizing acc with
  | zero => simp only [greatestFrom, pow_zero] at *; omega
  | succ k ih =>
    simp only [greatestFrom]
    apply ih
    split
    · rw [pow_succ] at hlt; omega
    · next hn =>
      by_contra hc
      exact hn (down _ _ (by omega) hy)

/-- `rhu` brackets its quotient: the numerator, doubled and shifted by half a divisor, lies between the answer and the next
(00_scope.md R10). -/
theorem rhu_bracket (n d : Nat) (hd : 0 < d) : d * rhu n d ≤ n + d / 2 ∧ n + d / 2 < d * rhu n d + d := by
  unfold rhu
  have h := Nat.div_add_mod (n + d / 2) d
  have h2 := Nat.mod_lt (n + d / 2) hd
  omega

/-- `rhu` is non-decreasing in its numerator (used in 43_hsv_to_rgb.md R182). -/
theorem rhu_mono (d : Nat) {a b : Nat} (h : a ≤ b) : rhu a d ≤ rhu b d :=
  Nat.div_le_div_right (Nat.add_le_add_right h _)

end Sys2Proof.Machine
end

