-- ==== Sys2Proof/Laws/State.lean ====
section
/-! SUPPORT. What each update of the state leaves in each field, once and for all. -/

namespace Sys2Proof.Machine

@[simp] theorem State.respond_hasR2H (s : State) (r : Response) : (s.respond r).hasR2H = s.hasR2H := rfl
@[simp] theorem State.respond_gammaMode (s : State) (r : Response) : (s.respond r).gammaMode = s.gammaMode := rfl
@[simp] theorem State.respond_latencies (s : State) (r : Response) : (s.respond r).latencies = s.latencies := rfl
@[simp] theorem State.respond_host (s : State) (r : Response) : (s.respond r).host = s.host := rfl
@[simp] theorem State.respond_inFlight (s : State) (r : Response) : (s.respond r).inFlight = s.inFlight := rfl
@[simp] theorem State.respond_rspPort (s : State) (r : Response) : (s.respond r).rspPort = some r := rfl
@[simp] theorem State.respond_responses (s : State) (r : Response) : (s.respond r).responses = s.responses ++ [r] := rfl
@[simp] theorem State.respond_draws (s : State) (r : Response) : (s.respond r).draws = s.draws := rfl

@[simp] theorem State.respondAny_hasR2H (s : State) (i : Instr) : (s.respondAny i).hasR2H = s.hasR2H := rfl
@[simp] theorem State.respondAny_gammaMode (s : State) (i : Instr) : (s.respondAny i).gammaMode = s.gammaMode := rfl
@[simp] theorem State.respondAny_latencies (s : State) (i : Instr) : (s.respondAny i).latencies = s.latencies := rfl
@[simp] theorem State.respondAny_host (s : State) (i : Instr) : (s.respondAny i).host = s.host := rfl
@[simp] theorem State.respondAny_inFlight (s : State) (i : Instr) : (s.respondAny i).inFlight = s.inFlight := rfl
@[simp] theorem State.respondAny_rspPort (s : State) (i : Instr) : (s.respondAny i).rspPort = some (Config.anyResponse s.draws i) := rfl
@[simp] theorem State.respondAny_responses (s : State) (i : Instr) : (s.respondAny i).responses = s.responses ++ [Config.anyResponse s.draws i] := rfl
@[simp] theorem State.respondAny_draws (s : State) (i : Instr) : (s.respondAny i).draws = s.draws + 1 := rfl

@[simp] theorem State.accept_hasR2H (s : State) (w : Command) : (s.accept w).hasR2H = s.hasR2H := rfl
@[simp] theorem State.accept_gammaMode (s : State) (w : Command) : (s.accept w).gammaMode = s.gammaMode := rfl
@[simp] theorem State.accept_latencies (s : State) (w : Command) : (s.accept w).latencies = s.latencies.tail := rfl
@[simp] theorem State.accept_host (s : State) (w : Command) : (s.accept w).host = s.host := rfl
@[simp] theorem State.accept_inFlight (s : State) (w : Command) : (s.accept w).inFlight = s.inFlight ++ [⟨w, s.latencies.headD 0⟩] := rfl
@[simp] theorem State.accept_rspPort (s : State) (w : Command) : (s.accept w).rspPort = s.rspPort := rfl
@[simp] theorem State.accept_responses (s : State) (w : Command) : (s.accept w).responses = s.responses := rfl
@[simp] theorem State.accept_draws (s : State) (w : Command) : (s.accept w).draws = s.draws := rfl

@[simp] theorem State.resetEvent_hasR2H (s : State) : (s.resetEvent).hasR2H = s.hasR2H := rfl
@[simp] theorem State.resetEvent_gammaMode (s : State) : (s.resetEvent).gammaMode = s.gammaMode := rfl
@[simp] theorem State.resetEvent_latencies (s : State) : (s.resetEvent).latencies = s.latencies := rfl
@[simp] theorem State.resetEvent_host (s : State) : (s.resetEvent).host = s.host := rfl
@[simp] theorem State.resetEvent_inFlight (s : State) : (s.resetEvent).inFlight = [] := rfl
@[simp] theorem State.resetEvent_rspPort (s : State) : (s.resetEvent).rspPort = none := rfl
@[simp] theorem State.resetEvent_responses (s : State) : (s.resetEvent).responses = s.responses := rfl
@[simp] theorem State.resetEvent_draws (s : State) : (s.resetEvent).draws = s.draws := rfl

@[simp] theorem State.reset_hasR2H : State.reset.hasR2H = true := rfl
@[simp] theorem State.reset_gammaMode : State.reset.gammaMode = .exact := rfl
@[simp] theorem State.reset_latencies : State.reset.latencies = [] := rfl
@[simp] theorem State.reset_host : State.reset.host = [] := rfl
@[simp] theorem State.reset_inFlight : State.reset.inFlight = [] := rfl
@[simp] theorem State.reset_rspPort : State.reset.rspPort = none := rfl
@[simp] theorem State.reset_responses : State.reset.responses = [] := rfl
@[simp] theorem State.reset_draws : State.reset.draws = 0 := rfl

@[simp] theorem PendingCommand.age_word (p : PendingCommand) : p.age.word = p.word := rfl
@[simp] theorem PendingCommand.age_wait (p : PendingCommand) : p.age.wait = p.wait - 1 := rfl

end Sys2Proof.Machine
end

