-- ==== Sys2Proof/Laws/Ops.lean ====
section
/-! SUPPORT. For each shared operation, once, everything it can do. -/

namespace Sys2Proof.Machine

theorem answerScalar_inRange {b : Bool} (h : b = true) (i : Instr) (y : Nat) (s : State) :
    answerScalar b i y s = .next (s.respond (scalarResponse y)) := by simp [answerScalar, h]

theorem answerScalar_violation {b : Bool} (h : b = false) (i : Instr) (y : Nat) (s : State) :
    answerScalar b i y s = .next (s.respondAny i) := by simp [answerScalar, h]

theorem answerTuple_inRange {b : Bool} (h : b = true) (i : Instr) (t : Tuple) (s : State) :
    answerTuple b i t s = .next (s.respond (tupleResponse t)) := by simp [answerTuple, h]

theorem answerTuple_violation {b : Bool} (h : b = false) (i : Instr) (t : Tuple) (s : State) :
    answerTuple b i t s = .next (s.respondAny i) := by simp [answerTuple, h]

/-- A format S operation always answers, in one of two ways. -/
theorem answerScalar_cases (b : Bool) (i : Instr) (y : Nat) (s : State) :
    (b = true ∧ answerScalar b i y s = .next (s.respond (scalarResponse y))) ∨
      (b = false ∧ answerScalar b i y s = .next (s.respondAny i)) := by
  cases b
  · exact .inr ⟨rfl, rfl⟩
  · exact .inl ⟨rfl, rfl⟩

/-- A format T operation always answers, in one of two ways. -/
theorem answerTuple_cases (b : Bool) (i : Instr) (t : Tuple) (s : State) :
    (b = true ∧ answerTuple b i t s = .next (s.respond (tupleResponse t))) ∨
      (b = false ∧ answerTuple b i t s = .next (s.respondAny i)) := by
  cases b
  · exact .inr ⟨rfl, rfl⟩
  · exact .inl ⟨rfl, rfl⟩

theorem kindHolds_iff (k : ChannelKind) (x : Lane) : kindHolds k x = true ↔ x.toNat ≤ kindMax k := by
  simp [kindHolds]

theorem hsvHolds_iff (f : HsvFormat) (h s v : Lane) :
    hsvHolds f h s v = true ↔ h.toNat < hWrap f ∧ s.toNat ≤ maxSv f ∧ v.toNat ≤ maxSv f := by
  simp [hsvHolds, and_assoc]

theorem rgbHolds_iff (f : RgbFormat) (r g b : Lane) :
    rgbHolds f r g b = true ↔ r.toNat ≤ maxRgb f ∧ g.toNat ≤ maxRgb f ∧ b.toNat ≤ maxRgb f := by
  simp [rgbHolds, and_assoc]

/-- Every 16-bit value of a full-width kind is nominal (60_exceptions.md R262: the commands that cannot violate). -/
theorem kindHolds_fullWidth (x : Lane) : kindHolds .u16 x = true ∧ kindHolds .a16 x = true := by
  have h : x.toNat ≤ 65535 := by have := x.isLt; omega
  exact ⟨(kindHolds_iff _ _).2 h, (kindHolds_iff _ _).2 h⟩

/-- The host's next event leaves the parameters, the observation and the draws alone, and never raises `rsp_valid`. -/
theorem takeEvent_frame (s : State) :
    (takeEvent s).hasR2H = s.hasR2H ∧ (takeEvent s).gammaMode = s.gammaMode ∧
      (takeEvent s).responses = s.responses ∧ (takeEvent s).draws = s.draws ∧
      (takeEvent s).host = s.host.tail := by
  unfold takeEvent
  split <;> simp [*]

/-- What the queue yields: nothing while it is empty or its oldest command waits, else that command. -/
theorem oldestDue_cases (s : State) :
    (s.inFlight = [] ∧ oldestDue s = .quiet { s with rspPort := none }) ∨
    (∃ p rest, s.inFlight = p :: rest ∧ p.wait ≠ 0 ∧
      oldestDue s = .quiet { s with inFlight := (p :: rest).map PendingCommand.age, rspPort := none }) ∨
    (∃ p rest, s.inFlight = p :: rest ∧ p.wait = 0 ∧
      oldestDue s = .command p.word { s with inFlight := rest.map PendingCommand.age, rspPort := none }) := by
  unfold oldestDue
  cases h : s.inFlight with
  | nil => exact .inl ⟨rfl, rfl⟩
  | cons p rest =>
    by_cases hw : p.wait = 0
    · exact .inr (.inr ⟨p, rest, rfl, hw, by simp [hw]⟩)
    · exact .inr (.inl ⟨p, rest, rfl, hw, by simp [hw]⟩)

/-- The three things a step can do: move the ports on, execute the decoded command, or refuse a reserved encoding. -/
theorem step_cases (s : State) :
    (∃ t, fetch s = .quiet t ∧ step s = .next t) ∨
    (∃ w t i, fetch s = .command w t ∧ decode t.hasR2H w = .ok i ∧ step s = exec i t) ∨
    (∃ w t why, fetch s = .command w t ∧ decode t.hasR2H w = .error why ∧
      step s = .refused (.reservedEncoding why)) := by
  unfold step
  cases hf : fetch s with
  | quiet t => exact .inl ⟨t, rfl, rfl⟩
  | command w t =>
    cases hd : decode t.hasR2H w with
    | ok i => exact .inr (.inl ⟨w, t, i, rfl, hd, by simp [runWord, hd]⟩)
    | error why => exact .inr (.inr ⟨w, t, why, rfl, hd, by simp [runWord, hd]⟩)

/-- The next step of a state with a fetch word is that word's execution. -/
theorem fetch_withFetchWord (s : State) (nbits w : Nat) :
    fetch (s.withFetchWord nbits w) = .command (BitVec.ofNat 64 (w % 2 ^ nbits)) { s with inFlight := [], rspPort := none } := by
  simp [fetch, takeEvent, State.withFetchWord, oldestDue, State.accept]

end Sys2Proof.Machine
end

