-- ==== Sys2Proof/Laws/PerInstr.lean ====
section
/-! SUPPORT. For every instruction: its word carries an opcode of the map (30_encoding.md R69). -/

namespace Sys2Proof

/-- The 46 opcodes of 30_encoding.md R69, in the table's order. -/
def opcodeMap : List Opcode :=
  [0x1000#16, 0x1001#16, 0x1100#16, 0x1101#16, 0x1200#16, 0x1201#16, 0x1300#16, 0x1301#16] ++
  [0x1400#16, 0x1401#16, 0x1500#16, 0x1501#16, 0x1600#16, 0x1601#16, 0x1700#16, 0x1701#16] ++
  [0x1800#16, 0x1801#16, 0x1900#16, 0x1901#16, 0x1A00#16, 0x1A01#16, 0x1B00#16, 0x1B01#16] ++
  [0x2000#16, 0x2100#16, 0x2200#16, 0x3000#16, 0x3100#16, 0x3200#16, 0x4000#16, 0x4001#16] ++
  [0x4100#16, 0x4101#16, 0x4200#16, 0x4201#16, 0x4300#16, 0x4301#16, 0x5000#16, 0x5001#16] ++
  [0x5100#16, 0x5101#16, 0x5200#16, 0x5201#16, 0x5300#16, 0x5301#16]

namespace Laws.OpcodeInMap

/-- The opcode field of the instruction's word is a row of the map. -/
def Statement (i : Instr) : Prop := opcodeField (encode i) ∈ opcodeMap

theorem of_word {i : Instr} {opc : Opcode} (h : opcodeField (encode i) = opc) (hm : opc ∈ opcodeMap) : Statement i :=
  (congrArg (· ∈ opcodeMap) h).mpr hm

theorem rsU5U8 (ign : Ignored) (x : Lane) : Statement (.rsU5U8 ign x) :=
  of_word (opcodeField_wordS _ _ _) (by decide)
theorem rsU8U5 (ign : Ignored) (x : Lane) : Statement (.rsU8U5 ign x) :=
  of_word (opcodeField_wordS _ _ _) (by decide)
theorem rsU5U16 (ign : Ignored) (x : Lane) : Statement (.rsU5U16 ign x) :=
  of_word (opcodeField_wordS _ _ _) (by decide)
theorem rsU16U5 (ign : Ignored) (x : Lane) : Statement (.rsU16U5 ign x) :=
  of_word (opcodeField_wordS _ _ _) (by decide)
theorem rsU6U8 (ign : Ignored) (x : Lane) : Statement (.rsU6U8 ign x) :=
  of_word (opcodeField_wordS _ _ _) (by decide)
theorem rsU8U6 (ign : Ignored) (x : Lane) : Statement (.rsU8U6 ign x) :=
  of_word (opcodeField_wordS _ _ _) (by decide)
theorem rsU6U16 (ign : Ignored) (x : Lane) : Statement (.rsU6U16 ign x) :=
  of_word (opcodeField_wordS _ _ _) (by decide)
theorem rsU16U6 (ign : Ignored) (x : Lane) : Statement (.rsU16U6 ign x) :=
  of_word (opcodeField_wordS _ _ _) (by decide)
theorem rsU8U8 (ign : Ignored) (x : Lane) : Statement (.rsU8U8 ign x) :=
  of_word (opcodeField_wordS _ _ _) (by decide)
theorem rsU8U8I (ign : Ignored) (x : Lane) : Statement (.rsU8U8I ign x) :=
  of_word (opcodeField_wordS _ _ _) (by decide)
theorem rsU8U16 (ign : Ignored) (x : Lane) : Statement (.rsU8U16 ign x) :=
  of_word (opcodeField_wordS _ _ _) (by decide)
theorem rsU16U8 (ign : Ignored) (x : Lane) : Statement (.rsU16U8 ign x) :=
  of_word (opcodeField_wordS _ _ _) (by decide)
theorem rsU16U16 (ign : Ignored) (x : Lane) : Statement (.rsU16U16 ign x) :=
  of_word (opcodeField_wordS _ _ _) (by decide)
theorem rsU16U16I (ign : Ignored) (x : Lane) : Statement (.rsU16U16I ign x) :=
  of_word (opcodeField_wordS _ _ _) (by decide)
theorem rsPctU8 (ign : Ignored) (x : Lane) : Statement (.rsPctU8 ign x) :=
  of_word (opcodeField_wordS _ _ _) (by decide)
theorem rsU8Pct (ign : Ignored) (x : Lane) : Statement (.rsU8Pct ign x) :=
  of_word (opcodeField_wordS _ _ _) (by decide)
theorem rsPctU16 (ign : Ignored) (x : Lane) : Statement (.rsPctU16 ign x) :=
  of_word (opcodeField_wordS _ _ _) (by decide)
theorem rsU16Pct (ign : Ignored) (x : Lane) : Statement (.rsU16Pct ign x) :=
  of_word (opcodeField_wordS _ _ _) (by decide)
theorem rsA8Deg (ign : Ignored) (x : Lane) : Statement (.rsA8Deg ign x) :=
  of_word (opcodeField_wordS _ _ _) (by decide)
theorem rsDegA8 (ign : Ignored) (x : Lane) : Statement (.rsDegA8 ign x) :=
  of_word (opcodeField_wordS _ _ _) (by decide)
theorem rsDegA16 (ign : Ignored) (x : Lane) : Statement (.rsDegA16 ign x) :=
  of_word (opcodeField_wordS _ _ _) (by decide)
theorem rsA16Deg (ign : Ignored) (x : Lane) : Statement (.rsA16Deg ign x) :=
  of_word (opcodeField_wordS _ _ _) (by decide)
theorem rsA8A16 (ign : Ignored) (x : Lane) : Statement (.rsA8A16 ign x) :=
  of_word (opcodeField_wordS _ _ _) (by decide)
theorem rsA16A8 (ign : Ignored) (x : Lane) : Statement (.rsA16A8 ign x) :=
  of_word (opcodeField_wordS _ _ _) (by decide)
theorem gdG8L8 (ign : Ignored) (x : Lane) : Statement (.gdG8L8 ign x) :=
  of_word (opcodeField_wordS _ _ _) (by decide)
theorem gdG8L16 (ign : Ignored) (x : Lane) : Statement (.gdG8L16 ign x) :=
  of_word (opcodeField_wordS _ _ _) (by decide)
theorem gdG16L16 (ign : Ignored) (x : Lane) : Statement (.gdG16L16 ign x) :=
  of_word (opcodeField_wordS _ _ _) (by decide)
theorem geL8G8 (ign : Ignored) (x : Lane) : Statement (.geL8G8 ign x) :=
  of_word (opcodeField_wordS _ _ _) (by decide)
theorem geL16G8 (ign : Ignored) (x : Lane) : Statement (.geL16G8 ign x) :=
  of_word (opcodeField_wordS _ _ _) (by decide)
theorem geL16G16 (ign : Ignored) (x : Lane) : Statement (.geL16G16 ign x) :=
  of_word (opcodeField_wordS _ _ _) (by decide)
theorem h2rH888R8 (h s v : Lane) : Statement (.h2rH888R8 h s v) :=
  of_word (opcodeField_wordT _ _ _ _) (by decide)
theorem h2rH888R16 (h s v : Lane) : Statement (.h2rH888R16 h s v) :=
  of_word (opcodeField_wordT _ _ _ _) (by decide)
theorem h2rHdecR8 (h s v : Lane) : Statement (.h2rHdecR8 h s v) :=
  of_word (opcodeField_wordT _ _ _ _) (by decide)
theorem h2rHdecR16 (h s v : Lane) : Statement (.h2rHdecR16 h s v) :=
  of_word (opcodeField_wordT _ _ _ _) (by decide)
theorem h2rH32R8 (h s v : Lane) : Statement (.h2rH32R8 h s v) :=
  of_word (opcodeField_wordT _ _ _ _) (by decide)
theorem h2rH32R16 (h s v : Lane) : Statement (.h2rH32R16 h s v) :=
  of_word (opcodeField_wordT _ _ _ _) (by decide)
theorem h2rH48R8 (h s v : Lane) : Statement (.h2rH48R8 h s v) :=
  of_word (opcodeField_wordT _ _ _ _) (by decide)
theorem h2rH48R16 (h s v : Lane) : Statement (.h2rH48R16 h s v) :=
  of_word (opcodeField_wordT _ _ _ _) (by decide)
theorem r2hR8H888 (r g b : Lane) : Statement (.r2hR8H888 r g b) :=
  of_word (opcodeField_wordT _ _ _ _) (by decide)
theorem r2hR16H888 (r g b : Lane) : Statement (.r2hR16H888 r g b) :=
  of_word (opcodeField_wordT _ _ _ _) (by decide)
theorem r2hR8Hdec (r g b : Lane) : Statement (.r2hR8Hdec r g b) :=
  of_word (opcodeField_wordT _ _ _ _) (by decide)
theorem r2hR16Hdec (r g b : Lane) : Statement (.r2hR16Hdec r g b) :=
  of_word (opcodeField_wordT _ _ _ _) (by decide)
theorem r2hR8H32 (r g b : Lane) : Statement (.r2hR8H32 r g b) :=
  of_word (opcodeField_wordT _ _ _ _) (by decide)
theorem r2hR16H32 (r g b : Lane) : Statement (.r2hR16H32 r g b) :=
  of_word (opcodeField_wordT _ _ _ _) (by decide)
theorem r2hR8H48 (r g b : Lane) : Statement (.r2hR8H48 r g b) :=
  of_word (opcodeField_wordT _ _ _ _) (by decide)
theorem r2hR16H48 (r g b : Lane) : Statement (.r2hR16H48 r g b) :=
  of_word (opcodeField_wordT _ _ _ _) (by decide)

end Laws.OpcodeInMap

end Sys2Proof
end

