-- ==== Sys2Proof/Tests/Slice0.lean ====
section
/-! SUPPORT. Tests: every word decodes and answers as the spec's examples say, ill-formed operands and reserved words are refused,
and for every statement with hypotheses a witness that meets them. Expected values come from the Example of each instruction's
rule and from 95_test_vectors.md, never from the model. -/

namespace Sys2Proof.Tests

open Sys2Proof.Machine Sys2Proof.Claims

/-! Decoding: the word of each rule's Example. -/

theorem test_decode_rsU5U8 : decodeTableWord 64 0x100000000000000F = some (.rsU5U8 0x0 15) := by decide
theorem test_decode_rsU8U5 : decodeTableWord 64 0x100100000000007F = some (.rsU8U5 0x0 127) := by decide
theorem test_decode_rsU5U16 : decodeTableWord 64 0x110000000000000F = some (.rsU5U16 0x0 15) := by decide
theorem test_decode_rsU16U5 : decodeTableWord 64 0x1101000000007FFF = some (.rsU16U5 0x0 32767) := by decide
theorem test_decode_rsU6U8 : decodeTableWord 64 0x120000000000001F = some (.rsU6U8 0x0 31) := by decide
theorem test_decode_rsU8U6 : decodeTableWord 64 0x120100000000007F = some (.rsU8U6 0x0 127) := by decide
theorem test_decode_rsU6U16 : decodeTableWord 64 0x130000000000001F = some (.rsU6U16 0x0 31) := by decide
theorem test_decode_rsU16U6 : decodeTableWord 64 0x1301000000007FFF = some (.rsU16U6 0x0 32767) := by decide
theorem test_decode_rsU8U8 : decodeTableWord 64 0x140000000000007F = some (.rsU8U8 0x0 127) := by decide
theorem test_decode_rsU8U8I : decodeTableWord 64 0x140100000000007F = some (.rsU8U8I 0x0 127) := by decide
theorem test_decode_rsU8U16 : decodeTableWord 64 0x150000000000007F = some (.rsU8U16 0x0 127) := by decide
theorem test_decode_rsU16U8 : decodeTableWord 64 0x1501000000007FFF = some (.rsU16U8 0x0 32767) := by decide
theorem test_decode_rsU16U16 : decodeTableWord 64 0x1600000000007FFF = some (.rsU16U16 0x0 32767) := by decide
theorem test_decode_rsU16U16I : decodeTableWord 64 0x1601000000007FFF = some (.rsU16U16I 0x0 32767) := by decide
theorem test_decode_rsPctU8 : decodeTableWord 64 0x1700000000000032 = some (.rsPctU8 0x0 50) := by decide
theorem test_decode_rsU8Pct : decodeTableWord 64 0x170100000000007F = some (.rsU8Pct 0x0 127) := by decide
theorem test_decode_rsPctU16 : decodeTableWord 64 0x1800000000000032 = some (.rsPctU16 0x0 50) := by decide
theorem test_decode_rsU16Pct : decodeTableWord 64 0x1801000000007FFF = some (.rsU16Pct 0x0 32767) := by decide
theorem test_decode_rsA8Deg : decodeTableWord 64 0x190000000000007F = some (.rsA8Deg 0x0 127) := by decide
theorem test_decode_rsDegA8 : decodeTableWord 64 0x19010000000000B3 = some (.rsDegA8 0x0 179) := by decide
theorem test_decode_rsDegA16 : decodeTableWord 64 0x1A000000000000B3 = some (.rsDegA16 0x0 179) := by decide
theorem test_decode_rsA16Deg : decodeTableWord 64 0x1A01000000007FFF = some (.rsA16Deg 0x0 32767) := by decide
theorem test_decode_rsA8A16 : decodeTableWord 64 0x1B0000000000007F = some (.rsA8A16 0x0 127) := by decide
theorem test_decode_rsA16A8 : decodeTableWord 64 0x1B01000000007FFF = some (.rsA16A8 0x0 32767) := by decide
theorem test_decode_gdG8L8 : decodeTableWord 64 0x20000000000000C8 = some (.gdG8L8 0x0 200) := by decide
theorem test_decode_gdG8L16 : decodeTableWord 64 0x21000000000000C8 = some (.gdG8L16 0x0 200) := by decide
theorem test_decode_gdG16L16 : decodeTableWord 64 0x2200000000008000 = some (.gdG16L16 0x0 32768) := by decide
theorem test_decode_geL8G8 : decodeTableWord 64 0x3000000000000080 = some (.geL8G8 0x0 128) := by decide
theorem test_decode_geL16G8 : decodeTableWord 64 0x3100000000008000 = some (.geL16G8 0x0 32768) := by decide
theorem test_decode_geL16G16 : decodeTableWord 64 0x3200000000008000 = some (.geL16G16 0x0 32768) := by decide
theorem test_decode_h2rH888R8 : decodeTableWord 64 0x40000095005500AA = some (.h2rH888R8 149 85 170) := by decide
theorem test_decode_h2rH888R16 : decodeTableWord 64 0x40010095005500AA = some (.h2rH888R16 149 85 170) := by decide
theorem test_decode_h2rHdecR8 : decodeTableWord 64 0x410000D200210042 = some (.h2rHdecR8 210 33 66) := by decide
theorem test_decode_h2rHdecR16 : decodeTableWord 64 0x410100D200210042 = some (.h2rHdecR16 210 33 66) := by decide
theorem test_decode_h2rH32R8 : decodeTableWord 64 0x42009555005500AA = some (.h2rH32R8 38229 85 170) := by decide
theorem test_decode_h2rH32R16 : decodeTableWord 64 0x42019555005500AA = some (.h2rH32R16 38229 85 170) := by decide
theorem test_decode_h2rH48R8 : decodeTableWord 64 0x430095555555AAAA = some (.h2rH48R8 38229 21845 43690) := by decide
theorem test_decode_h2rH48R16 : decodeTableWord 64 0x430195555555AAAA = some (.h2rH48R16 38229 21845 43690) := by decide
theorem test_decode_r2hR8H888 : decodeTableWord 64 0x50000072008F00AA = some (.r2hR8H888 114 143 170) := by decide
theorem test_decode_r2hR16H888 : decodeTableWord 64 0x500172728EFFAAAA = some (.r2hR16H888 29298 36607 43690) := by decide
theorem test_decode_r2hR8Hdec : decodeTableWord 64 0x51000072008F00AA = some (.r2hR8Hdec 114 143 170) := by decide
theorem test_decode_r2hR16Hdec : decodeTableWord 64 0x510172728EFFAAAA = some (.r2hR16Hdec 29298 36607 43690) := by decide
theorem test_decode_r2hR8H32 : decodeTableWord 64 0x52000072008F00AA = some (.r2hR8H32 114 143 170) := by decide
theorem test_decode_r2hR16H32 : decodeTableWord 64 0x520172728EFFAAAA = some (.r2hR16H32 29298 36607 43690) := by decide
theorem test_decode_r2hR8H48 : decodeTableWord 64 0x53000072008F00AA = some (.r2hR8H48 114 143 170) := by decide
theorem test_decode_r2hR16H48 : decodeTableWord 64 0x530172728EFFAAAA = some (.r2hR16H48 29298 36607 43690) := by decide

/-- 95_test_vectors.md section 6: the ignored bits of a scalar word. -/
theorem test_decode_ignored_bits : decode true 0x1100FFFFFFFF001F#64 = .ok (.rsU5U16 0xFFFFFFFF 31) := by decide

/-- 95_test_vectors.md section 6: the reserved words. -/
theorem test_reserved_words :
    decode true 0x0000000000000000#64 = .error .unit ∧
    decode true 0x1002000000000005#64 = .error .rescalerMode ∧
    decode true 0x1C00000000000005#64 = .error .pair ∧
    decode true 0x1010000000000005#64 = .error .zeroField ∧
    decode true 0x2300000000000000#64 = .error .gammaVariant ∧
    decode true 0x2001000000000010#64 = .error .gammaFieldMode ∧
    decode true 0x3300000000000000#64 = .error .gammaVariant ∧
    decode true 0x4400000000FF00FF#64 = .error .hsvFormat ∧
    decode true 0x4002000000FF00FF#64 = .error .hsvMode ∧
    decode true 0x5400000000000000#64 = .error .hsvFormat ∧
    decode true 0x6000000000000000#64 = .error .unit ∧
    decode true 0xFFFFFFFFFFFFFFFF#64 = .error .unit := by decide

/-- 44_rgb_to_hsv.md R210: without the unit its words are reserved, the others are not. -/
theorem test_reserved_without_unit : decode false 0x5301FFFFFFFFFFFF#64 = .error .unitAbsent ∧
    decode false 0x430100000000FFFF#64 = .ok (.h2rH48R16 0 0 65535) := by decide

/-- The encoder writes the word of 30_encoding.md R61. -/
theorem test_encode : encode (.rsU5U16 0xFFFFFFFF 31) = 0x1100FFFFFFFF001F#64 ∧
    encode (.h2rHdecR8 210 33 66) = 0x410000D200210042#64 := by decide

/-! Well-formed: the last operand in range is, the first out of range is refused (60_exceptions.md R262). -/

theorem test_wellFormed_rsU5U8 : Instr.wellFormed (.rsU5U8 0 31) = true ∧ Instr.wellFormed (.rsU5U8 0 32) = false := by decide
theorem test_wellFormed_rsU6U16 : Instr.wellFormed (.rsU6U16 0 63) = true ∧ Instr.wellFormed (.rsU6U16 0 64) = false := by decide
theorem test_wellFormed_rsU8U8 : Instr.wellFormed (.rsU8U8 0 255) = true ∧ Instr.wellFormed (.rsU8U8 0 256) = false := by decide
theorem test_wellFormed_rsPctU8 : Instr.wellFormed (.rsPctU8 0 100) = true ∧ Instr.wellFormed (.rsPctU8 0 101) = false := by decide
theorem test_wellFormed_rsA8Deg : Instr.wellFormed (.rsA8Deg 0 255) = true ∧ Instr.wellFormed (.rsA8Deg 0 256) = false := by decide
theorem test_wellFormed_rsDegA8 : Instr.wellFormed (.rsDegA8 0 359) = true ∧ Instr.wellFormed (.rsDegA8 0 360) = false := by decide
theorem test_wellFormed_gdG8L8 : Instr.wellFormed (.gdG8L8 0 255) = true ∧ Instr.wellFormed (.gdG8L8 0 256) = false := by decide
theorem test_wellFormed_geL8G8 : Instr.wellFormed (.geL8G8 0 255) = true ∧ Instr.wellFormed (.geL8G8 0 256) = false := by decide
theorem test_wellFormed_h2rH888R8 : Instr.wellFormed (.h2rH888R8 255 255 255) = true ∧
    Instr.wellFormed (.h2rH888R8 256 0 0) = false ∧ Instr.wellFormed (.h2rH888R8 0 256 0) = false ∧ Instr.wellFormed (.h2rH888R8 0 0 256) = false := by decide
theorem test_wellFormed_h2rHdecR8 : Instr.wellFormed (.h2rHdecR8 359 100 100) = true ∧
    Instr.wellFormed (.h2rHdecR8 360 0 0) = false ∧ Instr.wellFormed (.h2rHdecR8 0 101 0) = false ∧ Instr.wellFormed (.h2rHdecR8 0 0 101) = false := by decide
theorem test_wellFormed_h2rH32R8 : Instr.wellFormed (.h2rH32R8 65535 255 255) = true ∧
    Instr.wellFormed (.h2rH32R8 65535 256 0) = false ∧ Instr.wellFormed (.h2rH32R8 65535 0 256) = false := by decide
theorem test_wellFormed_r2hR8H888 : Instr.wellFormed (.r2hR8H888 255 255 255) = true ∧
    Instr.wellFormed (.r2hR8H888 256 0 0) = false ∧ Instr.wellFormed (.r2hR8H888 0 256 0) = false ∧ Instr.wellFormed (.r2hR8H888 0 0 256) = false := by decide
theorem test_wellFormed_r2hR8H48 : Instr.wellFormed (.r2hR8H48 255 255 255) = true ∧
    Instr.wellFormed (.r2hR8H48 256 0 0) = false := by decide
theorem test_wellFormed_fullWidth : Instr.wellFormed (.rsU16U5 0xFFFFFFFF 65535) = true ∧ Instr.wellFormed (.rsA16Deg 0 65535) = true ∧
    Instr.wellFormed (.h2rH48R16 65535 65535 65535) = true ∧ Instr.wellFormed (.r2hR16H48 65535 65535 65535) = true := by decide

/-! One step on the machine after reset with the word presented: the response of 95_test_vectors.md sections 2 to 4. -/

/-- The machine after reset with this word presented next. -/
def presented (w : Nat) : State := State.reset.withFetchWord 64 w

/-- The response one step gives to a word. -/
def responseTo (w : Nat) : Option Response :=
  match step (presented w) with
  | .next t => t.rspPort
  | .fault _ => none
  | .refused _ => none

theorem test_run_rsU5U8 : responseTo 0x100000000000001E = some 0x0000000000F7#48 := by decide
theorem test_run_rsU8U5 : responseTo 0x10010000000000FE = some 0x00000000001F#48 := by decide
theorem test_run_rsU5U16 : responseTo 0x1100000000000015 = some 0x00000000AD6B#48 := by decide
theorem test_run_rsU16U5 : responseTo 0x110100000000FFFE = some 0x00000000001F#48 := by decide
theorem test_run_rsU6U8 : responseTo 0x120000000000003E = some 0x0000000000FB#48 := by decide
theorem test_run_rsU8U6 : responseTo 0x12010000000000FE = some 0x00000000003F#48 := by decide
theorem test_run_rsU6U16 : responseTo 0x1300000000000023 = some 0x000000008E38#48 := by decide
theorem test_run_rsU16U6 : responseTo 0x130100000000FFFE = some 0x00000000003F#48 := by decide
theorem test_run_rsU8U8 : responseTo 0x14000000000000FE = some 0x0000000000FE#48 := by decide
theorem test_run_rsU8U8I : responseTo 0x14010000000000FE = some 0x0000000000FE#48 := by decide
theorem test_run_rsU8U16 : responseTo 0x1500000000000080 = some 0x000000008080#48 := by decide
theorem test_run_rsU16U8 : responseTo 0x1501000000008000 = some 0x000000000080#48 := by decide
theorem test_run_rsU16U16 : responseTo 0x1600000000008000 = some 0x000000008000#48 := by decide
theorem test_run_rsU16U16I : responseTo 0x1601000000008000 = some 0x000000008000#48 := by decide
theorem test_run_rsPctU8 : responseTo 0x1700000000000063 = some 0x0000000000FC#48 := by decide
theorem test_run_rsU8Pct : responseTo 0x17010000000000AA = some 0x000000000043#48 := by decide
theorem test_run_rsPctU16 : responseTo 0x1800000000000033 = some 0x00000000828F#48 := by decide
theorem test_run_rsU16Pct : responseTo 0x1801000000008000 = some 0x000000000032#48 := by decide
theorem test_run_rsA8Deg : responseTo 0x19000000000000FF = some 0x000000000167#48 := by decide
theorem test_run_rsDegA8 : responseTo 0x19010000000000D2 = some 0x000000000095#48 := by decide
theorem test_run_rsDegA16 : responseTo 0x1A000000000000B4 = some 0x000000008000#48 := by decide
theorem test_run_rsA16Deg : responseTo 0x1A0100000000FFA4 = some 0x000000000167#48 := by decide
theorem test_run_rsA8A16 : responseTo 0x1B00000000000080 = some 0x000000008000#48 := by decide
theorem test_run_rsA16A8 : responseTo 0x1B01000000008000 = some 0x000000000080#48 := by decide
theorem test_run_gdG8L8 : responseTo 0x20000000000000FE = some 0x0000000000FD#48 := by decide
theorem test_run_gdG8L16 : responseTo 0x21000000000000BC = some 0x0000000080BD#48 := by decide
theorem test_run_gdG16L16 : responseTo 0x220000000000C8C8 = some 0x0000000093DC#48 := by decide
theorem test_run_geL8G8 : responseTo 0x30000000000000C8 = some 0x0000000000E5#48 := by decide
theorem test_run_geL16G8 : responseTo 0x310000000000FEDB = some 0x0000000000FE#48 := by decide
theorem test_run_geL16G16 : responseTo 0x3200000000003F75 = some 0x0000000088F6#48 := by decide
theorem test_run_h2rH888R8 : responseTo 0x40000015007F007F = some 0x007F005F0040#48 := by decide
theorem test_run_h2rH888R16 : responseTo 0x40010015007F007F = some 0x7F7F5F614040#48 := by decide
theorem test_run_h2rHdecR8 : responseTo 0x410000D200210043 = some 0x0073008F00AB#48 := by decide
theorem test_run_h2rHdecR16 : responseTo 0x4101001E00320032 = some 0x800060004000#48 := by decide
theorem test_run_h2rH32R8 : responseTo 0x4200AAAA00FF00FF = some 0x0000000100FF#48 := by decide
theorem test_run_h2rH32R16 : responseTo 0x4201155500800080 = some 0x8080605F4040#48 := by decide
theorem test_run_h2rH48R8 : responseTo 0x4300AAAAFFFFFFFF = some 0x0000000100FF#48 := by decide
theorem test_run_h2rH48R16 : responseTo 0x4301AAAAFFFFFFFF = some 0x00000004FFFF#48 := by decide
theorem test_run_r2hR8H888 : responseTo 0x50000004001700E1 = some 0x00A600FA00E1#48 := by decide
theorem test_run_r2hR16H888 : responseTo 0x500127104E207530 = some 0x009500AA0075#48 := by decide
theorem test_run_r2hR8Hdec : responseTo 0x51000004001700E1 = some 0x00EA00620058#48 := by decide
theorem test_run_r2hR16Hdec : responseTo 0x5101739C8E38AD6B = some 0x00D400210044#48 := by decide
theorem test_run_r2hR8H32 : responseTo 0x5200000200010001 = some 0x000000800002#48 := by decide
theorem test_run_r2hR16H32 : responseTo 0x520127104E207530 = some 0x955500AA0075#48 := by decide
theorem test_run_r2hR8H48 : responseTo 0x5300000200010001 = some 0x000080000202#48 := by decide
theorem test_run_r2hR16H48 : responseTo 0x530127104E207530 = some 0x9555AAAA7530#48 := by decide

/-- 95_test_vectors.md section 6: the wrap of RS.A16.A8 and RS.A16.DEG. -/
theorem test_run_wrap : responseTo 0x1B0100000000FF80 = some 0#48 ∧ responseTo 0x1A0100000000FFA5 = some 0#48 := by decide

/-- 95_test_vectors.md section 6: a reserved word is refused by the model. -/
theorem test_run_reserved : step (presented 0x1002000000000005) = .refused (.reservedEncoding .rescalerMode) ∧
    step (presented 0xFFFFFFFFFFFFFFFF) = .refused (.reservedEncoding .unit) := ⟨rfl, rfl⟩

/-- 95_test_vectors.md section 4.4: a contract violation is answered, with a free value. -/
theorem test_run_violation : responseTo 0x4100016800640064 = some (Config.anyResponse 0 (.h2rHdecR8 360 100 100)) := rfl

/-- 95_test_vectors.md program 6: the violation leaves no trace in the next response. -/
theorem test_run_after_violation :
    (match step ((State.reset.respondAny (.rsU5U8 0 32)).withFetchWord 64 0x100000000000001F) with
      | .next t => t.rspPort = some 255#48 ∧ t.draws = 1
      | .fault _ => False
      | .refused _ => False) := ⟨by decide, rfl⟩

/-- 10_state.md R28: with LATENCY 1 the first step answers nothing, the command waits. -/
theorem test_run_latency :
    step { State.reset with host := [.present 0x100000000000001F#64], latencies := [1] } =
      .next { State.reset with inFlight := [⟨0x100000000000001F#64, 0⟩] } := rfl

/-- 10_state.md R37: reset drops the command in flight. -/
theorem test_run_reset :
    step { State.reset with host := [.reset], inFlight := [⟨0x100000000000001F#64, 3⟩], rspPort := some 1#48 } =
      .next State.reset := rfl

/-- With nothing presented and nothing in flight the step changes nothing after reset. -/
theorem test_run_idle : step State.reset = .next State.reset := rfl

/-- 95_test_vectors.md section 7, program 1. -/
theorem test_cvt_p565_hdec : (convert .p565 .hsvDecimal ⟨14, 35, 21⟩ State.reset).map (·.1) = some ⟨212, 33, 68⟩ := by decide

/-- 95_test_vectors.md section 7, program 2. -/
theorem test_cvt_h888_l16 : (convert .hsv888 .lin16 ⟨149, 85, 170⟩ State.reset).map (·.1) = some ⟨11028, 17847, 26344⟩ := by decide

/-! Witnesses: for every statement with hypotheses, values that meet them. -/

theorem witness_EncodeOfDecodeIsTheWord : decode true 0x1100FFFFFFFF001F#64 = .ok (.rsU5U16 0xFFFFFFFF 31) ∧
    decode false 0x1000000000000000#64 = .ok (.rsU5U8 0 0) := by decide
theorem witness_OpcodeMapSelectsTheInstruction :
    (0x5301, 0x5301#16) ∈ opcodeRows.map (fun r => (r.1.toNat, (0x5301FFFFFFFFFFFF#64).extractLsb' 48 16)) ∧
    0x1000 ∈ opcodeRows.map (fun r => r.1.toNat) ∧ (0x1000 : Nat) / 4096 ≠ 5 := by decide
theorem witness_OpcodeMapSelectsTheInstruction_reserved :
    (∀ row ∈ opcodeRows, (0x6000000000000000#64).extractLsb' 48 16 = row.1 → true = false ∧ row.1.toNat / 4096 = 5) ∧
    (∀ row ∈ opcodeRows, (0x5000000000000000#64).extractLsb' 48 16 = row.1 → false = false ∧ row.1.toNat / 4096 = 5) := by decide
theorem witness_AbsentUnitReservesItsOpcodesOnly :
    20480 ≤ ((0x5000000000000000#64).extractLsb' 48 16).toNat ∧ ((0x5FFF000000000000#64).extractLsb' 48 16).toNat < 24576 ∧
    ((0x4FFF000000000000#64).extractLsb' 48 16).toNat < 20480 ∧ 24576 ≤ ((0x6000000000000000#64).extractLsb' 48 16).toNat := by decide
theorem witness_RescaleFiveAndSixBitChannels :
    ∀ q ∈ ([(0x1000FFFFFFFF001F#64, 0x1000#16, 31),
      (0x1001FFFFFFFF00FF#64, 0x1001#16, 255),
      (0x1100FFFFFFFF001F#64, 0x1100#16, 31),
      (0x1101FFFFFFFFFFFF#64, 0x1101#16, 65535),
      (0x1200FFFFFFFF003F#64, 0x1200#16, 63),
      (0x1201FFFFFFFF00FF#64, 0x1201#16, 255)] : List (Command × Opcode × Nat)),
      q.1.extractLsb' 48 16 = q.2.1 ∧ (q.1.extractLsb' 0 16).toNat ≤ q.2.2 := by decide
theorem witness_RescaleFiveAndSixBitChannels_outOfRange : ∀ m ∈ [31, 63, 255], m < (BitVec.ofNat 16 (m + 1)).toNat := by decide
theorem witness_RescaleSixEightAndSixteenBitChannels :
    ∀ q ∈ ([(0x1300FFFFFFFF003F#64, 0x1300#16, 63),
      (0x1301FFFFFFFFFFFF#64, 0x1301#16, 65535),
      (0x1400FFFFFFFF00FF#64, 0x1400#16, 255),
      (0x1401FFFFFFFF00FF#64, 0x1401#16, 255),
      (0x1500FFFFFFFF00FF#64, 0x1500#16, 255),
      (0x1501FFFFFFFFFFFF#64, 0x1501#16, 65535)] : List (Command × Opcode × Nat)),
      q.1.extractLsb' 48 16 = q.2.1 ∧ (q.1.extractLsb' 0 16).toNat ≤ q.2.2 := by decide
theorem witness_RescaleSixEightAndSixteenBitChannels_outOfRange : ∀ m ∈ [63, 255], m < (BitVec.ofNat 16 (m + 1)).toNat := by decide
theorem witness_RescaleIdentityAndPercentChannels :
    ∀ q ∈ ([(0x1600FFFFFFFFFFFF#64, 0x1600#16, 65535),
      (0x1601FFFFFFFFFFFF#64, 0x1601#16, 65535),
      (0x1700FFFFFFFF0064#64, 0x1700#16, 100),
      (0x1701FFFFFFFF00FF#64, 0x1701#16, 255),
      (0x1800FFFFFFFF0064#64, 0x1800#16, 100),
      (0x1801FFFFFFFFFFFF#64, 0x1801#16, 65535)] : List (Command × Opcode × Nat)),
      q.1.extractLsb' 48 16 = q.2.1 ∧ (q.1.extractLsb' 0 16).toNat ≤ q.2.2 := by decide
theorem witness_RescaleIdentityAndPercentChannels_outOfRange : ∀ m ∈ [100, 255], m < (BitVec.ofNat 16 (m + 1)).toNat := by decide
theorem witness_RescaleHueAngles :
    ∀ q ∈ ([(0x1900FFFFFFFF00FF#64, 0x1900#16, 255),
      (0x1901FFFFFFFF0167#64, 0x1901#16, 359),
      (0x1A00FFFFFFFF0167#64, 0x1A00#16, 359),
      (0x1A01FFFFFFFFFFFF#64, 0x1A01#16, 65535),
      (0x1B00FFFFFFFF00FF#64, 0x1B00#16, 255),
      (0x1B01FFFFFFFFFFFF#64, 0x1B01#16, 65535)] : List (Command × Opcode × Nat)),
      q.1.extractLsb' 48 16 = q.2.1 ∧ (q.1.extractLsb' 0 16).toNat ≤ q.2.2 := by decide
theorem witness_RescaleHueAngles_outOfRange : ∀ m ∈ [255, 359], m < (BitVec.ofNat 16 (m + 1)).toNat := by decide
theorem witness_SmallToLargeToSmallIsExact : pair0 ∈ rangePairs ∧ 31 ≤ pair0.small ∧ 255 ≤ pair0.large ∧
    pair10 ∈ rangePairs ∧ 359 ≤ pair10.small ∧ 65535 ≤ pair10.large := by decide
theorem witness_BoundariesMapToBoundaries : pair8 ∈ rangePairs ∧ pair8.angle = false := by decide
theorem witness_LandingValuesAreEvenlySpread : pair8 ∈ rangePairs ∧ pair8.angle = false ∧ 99 < pair8.small ∧
    pair11 ∈ rangePairs ∧ pair11.angle = true ∧ 254 < pair11.small := by decide
theorem witness_ToSmallStepsByAtMostOneButAtTheWrap : pair9 ∈ rangePairs ∧ pair9 ≠ pair10 ∧ pair9 ≠ pair11 ∧ 358 < pair9.large ∧
    65534 < pair6.large ∧ 65443 < pair10.large ∧ 65443 ≠ 65444 ∧ 65444 < 65445 ∧ 65445 ≤ pair10.large ∧
    65406 < pair11.large ∧ 65406 ≠ 65407 ∧ 65407 < 65408 ∧ 65408 ≤ pair11.large ∧ 254 < 255 ∧ 255 ≤ pair9.small := by decide
theorem witness_RescalerClosedForms : (255 : Nat) ≤ 255 ∧ (65535 : Nat) ≤ 65535 ∧ (359 : Nat) ≤ 359 := by decide
theorem witness_RoundHalfUpIsTheRoundedRational : (0 : Nat) < 1 ∧ 1 % 2 = 1 := by decide
theorem witness_GammaTableInstructionsReadTheirTables :
    ∀ q ∈ ([(0x2000FFFFFFFF00FF#64, 0x2000#16, 255),
      (0x2100FFFFFFFF00FF#64, 0x2100#16, 255),
      (0x3000FFFFFFFF00FF#64, 0x3000#16, 255)] : List (Command × Opcode × Nat)),
      q.1.extractLsb' 48 16 = q.2.1 ∧ (q.1.extractLsb' 0 16).toNat ≤ q.2.2 := by decide
theorem witness_GammaTableInstructionsReadTheirTables_outOfRange : ∀ m ∈ [255], m < (BitVec.ofNat 16 (m + 1)).toNat := by decide
theorem witness_AnalyticGammaInstructionsInExactMode :
    ∀ q ∈ ([(0x2200FFFFFFFFFFFF#64, 0x2200#16, 65535),
      (0x3100FFFFFFFFFFFF#64, 0x3100#16, 65535),
      (0x3200FFFFFFFFFFFF#64, 0x3200#16, 65535)] : List (Command × Opcode × Nat)),
      q.1.extractLsb' 48 16 = q.2.1 ∧ (q.1.extractLsb' 0 16).toNat ≤ q.2.2 := by decide
theorem witness_AnalyticGammaInstructionsInExactMode_mode : State.reset.gammaMode = .exact := rfl
theorem witness_AnalyticGammaInstructionsInExactMode_linear : (2650 : Nat) ≤ 2650 ∧ (205 : Nat) ≤ 205 ∧ (255 : Nat) ≤ 255 := by decide
theorem witness_DecodeTablesAreTheFormula : (255 : Nat) < 256 ∧ 6 ≤ 6 ∧ 7 ≤ 7 ∧ 17 ≤ 17 ∧ 254 < 255 := by decide
theorem witness_EncodeTableIsTheFormula : (255 : Nat) < 256 ∧ 254 < 255 ∧ 74 < 75 := by decide
theorem witness_GammaDecodeIsTheRoundedRealFormula : (65535 = 255 ∨ 65535 = 65535) ∧ (255 = 255 ∨ 255 = 65535) ∧ 65535 ≤ 65535 ∧
    65534 ≤ 65535 ∧ 0 < 255 := by decide
theorem witness_GammaEncodeIsTheRoundedRealFormula : (255 = 255 ∨ 255 = 65535) ∧ (65535 = 255 ∨ 65535 = 65535) ∧ 255 ≤ 255 ∧
    0 < 65535 := by decide
theorem witness_ConfiguredGammaHasTheNamedProperties : { State.reset with gammaMode := .configured }.gammaMode = .configured ∧
    (255 : Nat) < 256 ∧ (255#16).toNat ≤ 255 := by decide
theorem witness_GammaTablesAgreeWithTheSixteenBitForms : (255 : Nat) ≤ 255 := by decide
theorem witness_EightBitGammaTripsAreNearInverse : (255 : Nat) ≤ 255 := by decide
theorem witness_HsvToRgbOfEightBitAndDecimalHues :
    ∀ q ∈ ([(0x400000FF00FF00FF#64, 0x4000#16, 255, 255),
      (0x400100FF00FF00FF#64, 0x4001#16, 255, 255),
      (0x4100016700640064#64, 0x4100#16, 359, 100),
      (0x4101016700640064#64, 0x4101#16, 359, 100)] : List (Command × Opcode × Nat × Nat)),
      q.1.extractLsb' 48 16 = q.2.1 ∧ (q.1.extractLsb' 32 16).toNat ≤ q.2.2.1 ∧ (q.1.extractLsb' 16 16).toNat ≤ q.2.2.2 ∧
      (q.1.extractLsb' 0 16).toNat ≤ q.2.2.2 := by decide
theorem witness_HsvToRgbOfEightBitAndDecimalHues_outOfRange :
    ∀ m ∈ [100, 255], ¬ ((0#16).toNat ≤ 65535 ∧ (BitVec.ofNat 16 (m + 1)).toNat ≤ m ∧ (0#16).toNat ≤ m) := by decide
theorem witness_HsvToRgbOfSixteenBitHues :
    ∀ q ∈ ([(0x4200FFFF00FF00FF#64, 0x4200#16, 65535, 255),
      (0x4201FFFF00FF00FF#64, 0x4201#16, 65535, 255),
      (0x4300FFFFFFFFFFFF#64, 0x4300#16, 65535, 65535),
      (0x4301FFFFFFFFFFFF#64, 0x4301#16, 65535, 65535)] : List (Command × Opcode × Nat × Nat)),
      q.1.extractLsb' 48 16 = q.2.1 ∧ (q.1.extractLsb' 32 16).toNat ≤ q.2.2.1 ∧ (q.1.extractLsb' 16 16).toNat ≤ q.2.2.2 ∧
      (q.1.extractLsb' 0 16).toNat ≤ q.2.2.2 := by decide
theorem witness_HsvToRgbOfSixteenBitHues_outOfRange :
    ∀ m ∈ [255], ¬ ((0#16).toNat ≤ 65535 ∧ (BitVec.ofNat 16 (m + 1)).toNat ≤ m ∧ (0#16).toNat ≤ m) := by decide
theorem witness_HueSectorArcs : (65535 : Nat) < 65536 ∧ 65536 ∈ [256, 360, 65536] := by decide
theorem witness_ChannelAssignmentAndDefensiveSector : (0 = 0 ∧ 1 = 1 ∧ 2 = 2 ∧ 3 = 3 ∧ 4 = 4 ∧ 5 = 5) ∧ 5 < 6 := by decide
theorem witness_HsvToRgbStaysBetweenBottomAndTop : 359 < hWrap .hsvDecimal ∧ 100 ≤ maxSv .hsvDecimal ∧ 0 ≤ maxSv .hsvDecimal := by decide
theorem witness_ValueSurvivesTheTripThroughRgb : 65535 < hWrap .hsv48 ∧ 65535 ≤ maxSv .hsv48 ∧ 255 < hWrap .hsv888 ∧ 255 ≤ maxSv .hsv888 := by decide
theorem witness_RgbToHsvOfEightBitAndDecimalHues :
    ∀ q ∈ ([(0x500000FF00FF00FF#64, 0x5000#16, 255, 255),
      (0x5001FFFFFFFFFFFF#64, 0x5001#16, 65535, 65535),
      (0x510000FF00FF00FF#64, 0x5100#16, 255, 255),
      (0x5101FFFFFFFFFFFF#64, 0x5101#16, 65535, 65535)] : List (Command × Opcode × Nat × Nat)),
      q.1.extractLsb' 48 16 = q.2.1 ∧ (q.1.extractLsb' 32 16).toNat ≤ q.2.2.1 ∧ (q.1.extractLsb' 16 16).toNat ≤ q.2.2.2 ∧
      (q.1.extractLsb' 0 16).toNat ≤ q.2.2.2 := by decide
theorem witness_RgbToHsvOfEightBitAndDecimalHues_outOfRange :
    ∀ m ∈ [255], ¬ ((0#16).toNat ≤ 65535 ∧ (BitVec.ofNat 16 (m + 1)).toNat ≤ m ∧ (0#16).toNat ≤ m) := by decide
theorem witness_RgbToHsvOfSixteenBitHues :
    ∀ q ∈ ([(0x520000FF00FF00FF#64, 0x5200#16, 255, 255),
      (0x5201FFFFFFFFFFFF#64, 0x5201#16, 65535, 65535),
      (0x530000FF00FF00FF#64, 0x5300#16, 255, 255),
      (0x5301FFFFFFFFFFFF#64, 0x5301#16, 65535, 65535)] : List (Command × Opcode × Nat × Nat)),
      q.1.extractLsb' 48 16 = q.2.1 ∧ (q.1.extractLsb' 32 16).toNat ≤ q.2.2.1 ∧ (q.1.extractLsb' 16 16).toNat ≤ q.2.2.2 ∧
      (q.1.extractLsb' 0 16).toNat ≤ q.2.2.2 := by decide
theorem witness_RgbToHsvOfSixteenBitHues_outOfRange :
    ∀ m ∈ [255], ¬ ((0#16).toNat ≤ 65535 ∧ (BitVec.ofNat 16 (m + 1)).toNat ≤ m ∧ (0#16).toNat ≤ m) := by decide
theorem witness_HueSaturationAndValueStayInRange : 65535 ≤ maxRgb .rgb16 ∧ 255 ≤ maxRgb .rgb8 ∧
    min 255 (min 0 1) < max 255 (max 0 1) := by decide
theorem witness_TiedRowsGiveTheSameHue :
    (∀ q ∈ [(9, 9, 4), (9, 4, 4), (4, 9, 4), (4, 9, 9), (4, 4, 9), (9, 4, 9)],
      min q.1 (min q.2.1 q.2.2) < max q.1 (max q.2.1 q.2.2)) ∧
    (9 = max 9 (max 9 4) ∧ 4 = min 9 (min 9 4)) ∧ (9 = max 4 (max 9 4) ∧ 4 = min 4 (min 9 4)) ∧
    (9 = max 4 (max 9 9) ∧ 4 = min 4 (min 9 9)) ∧ (9 = max 4 (max 4 9) ∧ 4 = min 4 (min 4 9)) ∧
    (9 = max 9 (max 4 9) ∧ 4 = min 9 (min 4 9) ∧ 9 ≠ min 9 (min 4 9)) := by decide
theorem witness_GraysHaveNoHueAndNoSaturation : (255#16).toNat ≤ 255 := by decide
theorem witness_StepRunsTheDecodedCommand :
    (takeEvent (presented 0x100000000000001F)).inFlight = [⟨0x100000000000001F#64, 0⟩] ∧
    decode (presented 0x100000000000001F).hasR2H 0x100000000000001F#64 = .ok (.rsU5U8 0 31) ∧
    (presented 0x100000000000001F).host = [.present 0x100000000000001F#64] ∧ (presented 0x100000000000001F).inFlight = [] ∧
    (presented 0x100000000000001F).latencies.headD 0 = 0 := by decide
theorem witness_StepRunsTheDecodedCommand_waiting :
    (takeEvent { State.reset with inFlight := [⟨0#64, 1⟩] }).inFlight = [⟨0#64, 1⟩] ∧ 1 ≠ 0 ∧
    (takeEvent State.reset).inFlight = [] := by decide
theorem witness_StepRunsTheDecodedCommand_reserved :
    (takeEvent { State.reset with inFlight := [⟨0#64, 0⟩] }).inFlight = [⟨0#64, 0⟩] ∧ decode true 0#64 = .error .unit := by decide
theorem witness_ContractViolationsAreTheListedOperands : Violates (.rsU5U8 0 32) ∧ ¬ Violates (.rsU5U8 0 31) :=
  ⟨show 31 < (32#16).toNat by decide, show ¬ 31 < (31#16).toNat by decide⟩
theorem witness_ResponseDependsOnTheCommandAlone : Instr.wellFormed (.rsU5U8 0 31) = true ∧
    State.reset.gammaMode = { State.reset with draws := 7 }.gammaMode := by decide
theorem witness_IgnoredBitsChangeNothing : (Instr.rsU5U8 0xFFFFFFFF 31).wellFormed = true ∧ Instr.rsU5U8 ∈ scalarInstrs :=
  ⟨by decide, List.mem_cons_self⟩
theorem witness_ScalarResponsesFillLaneZeroOnly : (Instr.rsU5U8 0xFFFFFFFF 31).wellFormed = true ∧ Instr.rsU5U8 ∈ scalarInstrs :=
  ⟨by decide, List.mem_cons_self⟩
theorem witness_HonestHostIsNeverStopped : (presented 0x410000D200210042).contractKept = true := by decide
theorem witness_ResetDropsCommandsUntilTheNextAnswer :
    { State.reset with host := [.reset, .idle, .idle, .present 0x100000000000001F#64] }.host =
      .reset :: (List.replicate 2 .idle ++ [.present 0x100000000000001F#64]) ∧ 2 ≤ 2 := by decide
theorem witness_ResetDropsCommandsUntilTheNextAnswer_waiting :
    Host.Core.run Sys2Proof.core 2
      { State.reset with host := [.reset, .present 0x100000000000001F#64], latencies := [1], inFlight := [⟨0#64, 3⟩] } =
      .next { State.reset with inFlight := [⟨0x100000000000001F#64, 0⟩] } := rfl
theorem witness_StepKeepsPortShowingLastResponse : (presented 0x100000000000001F).portShowsLast = true ∧
    step (presented 0x100000000000001F) =
      .next { State.reset with rspPort := some 255#48, responses := [255#48] } := ⟨by decide, rfl⟩
theorem witness_StepExtendsTheObservationByThePort : step (presented 0x1000000000000020) =
    .next { State.reset with rspPort := some (Config.anyResponse 0 (.rsU5U8 0 32)),
                             responses := [Config.anyResponse 0 (.rsU5U8 0 32)], draws := 1 } := rfl
theorem witness_LatencyDelaysTheResponse :
    let s : State := { State.reset with host := [.present 0x100000000000001F#64, .idle], latencies := [2] }
    s.inFlight = [] ∧ s.host = .present 0x100000000000001F#64 :: [.idle] ∧ HostEvent.reset ∉ [HostEvent.idle] ∧
    s.latencies = 2 :: [] ∧ contractWord s.hasR2H 0x100000000000001F#64 = true ∧ 1 < 2 := by decide
theorem witness_RunAnswersEveryCommandInOrder :
    let s : State := { State.reset with host := [.present 0x100000000000001F#64, .idle], inFlight := [⟨0x20000000000000C8#64, 1⟩] }
    s.contractKept = true ∧ HostEvent.reset ∉ s.host := by decide
theorem witness_ZeroMapsToZero : (359#16).toNat < hWrap .hsvDecimal ∧ (100#16).toNat ≤ maxSv .hsvDecimal := by decide
theorem witness_MaximumMapsToMaximum : (359#16).toNat < hWrap .hsvDecimal ∧ (100#16).toNat ≤ maxSv .hsvDecimal ∧
    (65535#16).toNat ≤ maxRgb .rgb16 ∧ max (65535#16).toNat (max (0#16).toNat (0#16).toNat) = maxRgb .rgb16 := by decide
theorem witness_ScalarOperationsAreMonotone : (30#16 ≤ 31#16) ∧ (Instr.rsU5U8 0 30).wellFormed = true ∧
    (Instr.rsU5U8 0 31).wellFormed = true := by decide
theorem witness_ConversionsKeepBlackAndWhite : State.reset.hasR2H = true ∧ Rep.p565 ≠ Rep.hsv48 := by decide
theorem witness_ConversionRoutesHaveAtMostOneIntermediate : Rep.lin888 ≠ Rep.hsv48 := by decide

end Sys2Proof.Tests
end

section
/-! SUPPORT. The operations of the CORE as numeric functions: `rhu`, `to_large`, `to_small`, the gamma tables and the gamma
functions are non-decreasing on their operands and take the largest operand to the largest result (10_state.md R33, R35). -/

namespace Sys2Proof.Machine

open Sys2Proof.Claims

/-! Range pairs. -/

theorem kindMax_pos (k : ChannelKind) : 0 < kindMax k := by cases k <;> decide

theorem kindMax_lt (k : ChannelKind) : kindMax k < 2 ^ 16 := by cases k <;> decide

/-- Rounding is exact on a multiple of the divisor. -/
theorem rhu_mul_right (n : Nat) {d : Nat} (hd : 0 < d) : rhu (d * n) d = n := by
  have half : d / 2 / d = 0 := Nat.div_eq_of_lt (Nat.div_lt_self hd one_lt_two)
  rw [rhu, Nat.mul_add_div hd, half, Nat.add_zero]

theorem toLarge_mono (p : RangePair) : Monotone (toLarge p) := by
  intro x y h
  unfold toLarge
  split
  · exact rhu_mono _ (Nat.mul_le_mul_right _ h)
  · exact rhu_mono _ (Nat.mul_le_mul_right _ h)

theorem toLarge_small {p : RangePair} (hp : p.angle = false) (hs : 0 < p.small) : toLarge p p.small = p.large := by
  simp only [toLarge, hp, Bool.false_eq_true, if_false]
  exact rhu_mul_right _ hs

theorem toSmall_large {p : RangePair} (hp : p.angle = false) (hl : 0 < p.large) : toSmall p p.large = p.small := by
  simp only [toSmall, hp, Bool.false_eq_true, if_false]
  exact rhu_mul_right _ hl

/-- `to_large` stays in the large range; for a hue because half a small step is less than a whole turn of large codes. -/
theorem toLarge_le {p : RangePair} (hs : 0 < p.small) (hsl : p.small ≤ p.large) {x : Nat} (hx : x ≤ p.small) :
    toLarge p x ≤ p.large := by
  refine (toLarge_mono p hx).trans ?_
  cases hp : p.angle with
  | false => exact (toLarge_small hp hs).le
  | true =>
    simp only [toLarge, hp, if_true, rhu]
    refine Nat.le_of_lt_succ (Nat.div_lt_of_lt_mul ?_)
    rw [Nat.succ_eq_add_one, Nat.add_mul p.small 1 (p.large + 1)]
    omega

/-- The hue code `S + 1`, which R104 wraps to 0, is out of reach of the large range: so for every non-angle pair and for
pair 9. -/
def RangePair.NeverWraps (p : RangePair) : Prop :=
  p.angle = true → rhu (p.large * (p.small + 1)) (p.large + 1) ≤ p.small

theorem RangePair.NeverWraps.of_not_angle {p : RangePair} (hp : p.angle = false) : p.NeverWraps := by
  simp [RangePair.NeverWraps, hp]

theorem toSmall_mono {p : RangePair} (hp : p.NeverWraps) : MonotoneOn (toSmall p) (Set.Iic p.large) := by
  intro x hx y hy h
  unfold toSmall
  split
  · next angle =>
    have unwrapped {z : Nat} (hz : z ≤ p.large) : rhu (z * (p.small + 1)) (p.large + 1) < p.small + 1 :=
      Nat.lt_succ_of_le ((rhu_mono _ (Nat.mul_le_mul_right _ hz)).trans (hp angle))
    rw [Nat.mod_eq_of_lt (unwrapped hx), Nat.mod_eq_of_lt (unwrapped hy)]
    exact rhu_mono _ (Nat.mul_le_mul_right _ h)
  · exact rhu_mono _ (Nat.mul_le_mul_right _ h)

theorem toSmall_le {p : RangePair} (hl : 0 < p.large) {y : Nat} (hy : y ≤ p.large) : toSmall p y ≤ p.small := by
  cases hp : p.angle with
  | false =>
    exact (toSmall_mono (RangePair.NeverWraps.of_not_angle hp) hy (Set.self_mem_Iic) hy).trans (toSmall_large hp hl).le
  | true =>
    simp only [toSmall, hp, if_true]
    exact Nat.le_of_lt_succ (Nat.mod_lt _ p.small.succ_pos)

/-! Tables and exact gamma functions. -/

/-- A function that no single step of its range decreases is non-decreasing there. -/
theorem monotoneOn_Iic_of_steps {f : Nat → Nat} {top : Nat} (h : ∀ n < top, f n ≤ f (n + 1)) :
    MonotoneOn f (Set.Iic top) :=
  monotoneOn_of_le_add_one Set.ordConnected_Iic fun n _ _ hn => h n (Nat.lt_of_succ_le hn)

theorem romRead_lt {n : Nat} (rom : List (BitVec n)) (i : Nat) : romRead rom i < 2 ^ n := (rom.getD i 0).isLt

theorem romG8L8_mono : MonotoneOn (romRead romG8L8) (Set.Iic 255) := monotoneOn_Iic_of_steps (by decide +kernel)

theorem romG8L16_mono : MonotoneOn (romRead romG8L16) (Set.Iic 255) := monotoneOn_Iic_of_steps (by decide +kernel)

theorem romL8G8_mono : MonotoneOn (romRead romL8G8) (Set.Iic 255) := monotoneOn_Iic_of_steps (by decide +kernel)

/-- The search of a weaker test ends no lower. -/
theorem greatestFrom_mono {p q : Nat → Bool} (down : ∀ a b, a ≤ b → q b = true → q a = true)
    (weaker : ∀ y, p y = true → q y = true) {acc : Nat} (hacc : p acc = true) (k : Nat) :
    greatestFrom p k acc ≤ greatestFrom q k acc :=
  greatestFrom_largest q down k acc _ (weaker _ (greatestFrom_holds p k acc hacc)) (greatestFrom_bounds p k acc).2

/-- The family of tests of a power branch, from operand `first` on: each is downward closed, they weaken as the operand
grows, and the first one passes at `start`. -/
structure SearchFamily (p : Nat → Nat → Bool) (first start : Nat) : Prop where
  down : ∀ n a b, a ≤ b → p n b = true → p n a = true
  weaker : ∀ m n y, m ≤ n → p m y = true → p n y = true
  passes_start : p first start = true
  start_lt : start < 2 ^ 16

theorem SearchFamily.start_le {p : Nat → Nat → Bool} {first start n : Nat} (F : SearchFamily p first start)
    (hn : first ≤ n) : start ≤ greatestFrom (p n) 16 0 :=
  greatestFrom_largest _ (F.down n) 16 0 _ (F.weaker _ _ _ hn F.passes_start) (by simpa using F.start_lt)

theorem SearchFamily.mono {p : Nat → Nat → Bool} {first start m n : Nat} (F : SearchFamily p first start)
    (hm : first ≤ m) (hmn : m ≤ n) : greatestFrom (p m) 16 0 ≤ greatestFrom (p n) 16 0 :=
  greatestFrom_mono (F.down n) (F.weaker m n · hmn)
    (F.down _ _ _ (Nat.zero_le start) (F.weaker _ _ _ hm F.passes_start)) 16

/-- A function with a linear branch up to `last` and a search after it is non-decreasing when the search starts no lower
than the linear branch ends. -/
theorem monotone_of_linear_then_search {f lin : Nat → Nat} {p : Nat → Nat → Bool} {last : Nat} (hlin : Monotone lin)
    (F : SearchFamily p (last + 1) (lin last)) (below : ∀ n ≤ last, f n = lin n)
    (above : ∀ n, last < n → f n = greatestFrom (p n) 16 0) : Monotone f := by
  intro a b hab
  rcases Nat.lt_or_ge last a with ha | ha
  · rw [above a ha, above b (ha.trans_le hab)]
    exact F.mono ha hab
  · rcases Nat.lt_or_ge last b with hb | hb
    · rw [below a ha, above b hb]
      exact (hlin ha).trans (F.start_le hb)
    · rw [below a ha, below b hb]
      exact hlin hab

theorem decodeReaches_iff {n m out y : Nat} : decodeReaches n m out y = true ↔
    y ≤ out ∧ (2 * y - 1) ^ 5 * (211 * m) ^ 12 ≤ (200 * n + 11 * m) ^ 12 * (2 * out) ^ 5 := by
  simp [decodeReaches]

theorem encodeReaches_iff {n m out k : Nat} : encodeReaches n m out k = true ↔
    k ≤ out ∧ (200 * k + 11 * out - 100) ^ 12 * m ^ 5 ≤ n ^ 5 * (211 * out) ^ 12 := by
  simp [encodeReaches]

theorem decodeReaches_searchFamily {m out first start : Nat} (hstart : decodeReaches first m out start = true)
    (hlt : start < 2 ^ 16) : SearchFamily (decodeReaches · m out) first start where
  down n a b hab h := by
    obtain ⟨hb, hpow⟩ := decodeReaches_iff.1 h
    refine decodeReaches_iff.2 ⟨hab.trans hb, le_trans ?_ hpow⟩
    gcongr
  weaker k n y hkn h := by
    obtain ⟨hy, hpow⟩ := decodeReaches_iff.1 h
    refine decodeReaches_iff.2 ⟨hy, hpow.trans ?_⟩
    gcongr
  passes_start := hstart
  start_lt := hlt

theorem encodeReaches_searchFamily {m out first start : Nat} (hstart : encodeReaches first m out start = true)
    (hlt : start < 2 ^ 16) : SearchFamily (encodeReaches · m out) first start where
  down n a b hab h := by
    obtain ⟨hb, hpow⟩ := encodeReaches_iff.1 h
    refine encodeReaches_iff.2 ⟨hab.trans hb, le_trans ?_ hpow⟩
    gcongr
  weaker k n y hkn h := by
    obtain ⟨hy, hpow⟩ := encodeReaches_iff.1 h
    refine encodeReaches_iff.2 ⟨hy, hpow.trans ?_⟩
    gcongr
  passes_start := hstart
  start_lt := hlt

/-- With 16-bit operands the linear branch of the decode formula ends at 2650 (41_gamma_decode.md R146). -/
theorem gammaDec_mono : Monotone (gammaDec · 65535 65535) := by
  refine monotone_of_linear_then_search (lin := fun n => (200 * 65535 * n + 1292 * 65535) / (2584 * 65535)) (last := 2650)
    ?_ (decodeReaches_searchFamily (m := 65535) (out := 65535) (by decide) (by decide)) ?_ ?_
  · intro a b h
    dsimp only
    gcongr
  · intro n hn
    exact if_pos (by omega)
  · intro n hn
    exact if_neg (by omega)

/-- With 16-bit operands the linear branch of the encode formula ends at 205 (42_gamma_encode.md R165, R166). -/
theorem gammaEnc_mono {out : Nat} (hlt : (2584 * out * 205 + 100 * 65535) / (200 * 65535) < 2 ^ 16)
    (hstart : encodeReaches 206 65535 out ((2584 * out * 205 + 100 * 65535) / (200 * 65535)) = true) :
    Monotone (gammaEnc · 65535 out) := by
  refine monotone_of_linear_then_search (lin := fun n => (2584 * out * n + 100 * 65535) / (200 * 65535)) (last := 205)
    ?_ (encodeReaches_searchFamily hstart hlt) ?_ ?_
  · intro a b h
    dsimp only
    gcongr
  · intro n hn
    exact if_pos (by omega)
  · intro n hn
    exact if_neg (by omega)

/-- The search reaches `out` exactly when the test passes there, because it passes nowhere above. -/
theorem greatestFrom_eq_of_top {p : Nat → Bool} (down : ∀ a b, a ≤ b → p b = true → p a = true) {out : Nat}
    (hlt : out < 2 ^ 16) (htop : p out = true) (above : ∀ y, p y = true → y ≤ out) : greatestFrom p 16 0 = out :=
  le_antisymm (above _ (greatestFrom_holds p 16 0 (down _ _ (Nat.zero_le out) htop)))
    (greatestFrom_largest p down 16 0 out htop (by simpa using hlt))

/-- The largest operand decodes to the largest result (10_state.md R33). -/
theorem gammaDec_max {m out : Nat} (hm : 0 < m) (hlt : out < 2 ^ 16) : gammaDec m m out = out := by
  have top : decodeReaches m m out out = true := by
    refine decodeReaches_iff.2 ⟨le_rfl, ?_⟩
    rw [Nat.mul_comm, show 200 * m + 11 * m = 211 * m by ring]
    gcongr
    exact Nat.sub_le _ 1
  have F := decodeReaches_searchFamily top hlt
  rw [gammaDec, if_neg (by omega)]
  exact greatestFrom_eq_of_top (F.down m) hlt top fun y hy => (decodeReaches_iff.1 hy).1

/-- The largest operand encodes to the largest result (10_state.md R33). -/
theorem gammaEnc_max {m out : Nat} (hm : 0 < m) (hlt : out < 2 ^ 16) : gammaEnc m m out = out := by
  have top : encodeReaches m m out out = true := by
    refine encodeReaches_iff.2 ⟨le_rfl, ?_⟩
    rw [Nat.mul_comm]
    gcongr
    omega
  have F := encodeReaches_searchFamily top hlt
  rw [gammaEnc, if_neg (by omega)]
  exact greatestFrom_eq_of_top (F.down m) hlt top fun y hy => (encodeReaches_iff.1 hy).1

theorem gammaDec_zero {m : Nat} (hm : 0 < m) (out : Nat) : gammaDec 0 m out = 0 := by
  rw [gammaDec, if_pos (by omega)]
  exact Nat.div_eq_of_lt (by omega)

theorem gammaEnc_zero {m : Nat} (hm : 0 < m) (out : Nat) : gammaEnc 0 m out = 0 := by
  rw [gammaEnc, if_pos (by omega)]
  exact Nat.div_eq_of_lt (by omega)

/-! The two gamma modes: both have the properties of 42_gamma_encode.md R168. -/

theorem monotoneOnto_largest {f : Lane → Nat} {top : Nat} (h : MonotoneOnto f top) : f 65535 = top := h.2.2

theorem monotoneOnto_lt {f : Lane → Nat} {top : Nat} (h : MonotoneOnto f top) (htop : top < 2 ^ 16) (x : Lane) :
    f x < 2 ^ 16 := by
  obtain ⟨mono, -, largest⟩ := h
  have hx : f x ≤ f 65535 := mono x 65535 (Nat.le_of_lt_succ x.isLt)
  exact (largest ▸ hx).trans_lt htop

theorem gammaDec_monotoneOnto : MonotoneOnto (gammaDec ·.toNat 65535 65535) 65535 :=
  ⟨fun _ _ h => gammaDec_mono h, gammaDec_zero (by decide) _, gammaDec_max (by decide) (by decide)⟩

theorem gammaEnc_monotoneOnto : MonotoneOnto (gammaEnc ·.toNat 65535 65535) 65535 :=
  ⟨fun _ _ h => gammaEnc_mono (by decide) (by decide) h, gammaEnc_zero (by decide) _, gammaEnc_max (by decide) (by decide)⟩

theorem gammaEnc8_monotoneOnto : MonotoneOnto (gammaEnc ·.toNat 65535 255) 255 :=
  ⟨fun _ _ h => gammaEnc_mono (by decide) (by decide) h, gammaEnc_zero (by decide) _, gammaEnc_max (by decide) (by decide)⟩

theorem gammaLawful_iff {f : Nat → Nat} {top : Nat} {table : Nat → Nat} : gammaLawful f top table = true ↔
    (∀ n < 65535, f n ≤ f (n + 1)) ∧ f 0 = 0 ∧ f 65535 = top ∧ ∀ i < 256, f (257 * i) = table i := by
  unfold gammaLawful
  simp only [Bool.and_eq_true, List.all_eq_true, List.mem_range, decide_eq_true_eq, and_assoc]

theorem onLane_toNat {k : Nat} (f : Lane → BitVec k) (x : Lane) : onLane f x.toNat = (f x).toNat := by
  rw [onLane, BitVec.ofNat_toNat, BitVec.setWidth_eq]

theorem gammaLawful.monotoneOnto {k : Nat} {f : Lane → BitVec k} {top : Nat} {table : Nat → Nat}
    (h : gammaLawful (onLane f) top table = true) : MonotoneOnto (fun x => (f x).toNat) top := by
  obtain ⟨steps, zero, last, -⟩ := gammaLawful_iff.1 h
  refine ⟨fun a b hab => ?_, zero, last⟩
  have ha : a.toNat ≤ 65535 := Nat.le_of_lt_succ a.isLt
  have hb : b.toNat ≤ 65535 := Nat.le_of_lt_succ b.isLt
  simpa only [onLane_toNat] using monotoneOn_Iic_of_steps steps ha hb hab

/-- A configured function has the properties whichever way its guard falls: a lawful candidate by the guard, the exact
function by its own proof. -/
theorem configured_monotoneOnto {k : Nat} (f : Lane → BitVec k) {top : Nat} (table : Nat → Nat) {fallback : Lane → Nat}
    (h : MonotoneOnto fallback top) :
    MonotoneOnto (fun x => if gammaLawful (onLane f) top table then (f x).toNat else fallback x) top := by
  cases lawful : gammaLawful (onLane f) top table with
  | true => simpa only [if_true] using gammaLawful.monotoneOnto lawful
  | false => simpa only [Bool.false_eq_true, if_false] using h

theorem gammaDecode16_monotoneOnto (m : GammaMode) : MonotoneOnto (gammaDecode16 m) 65535 := by
  cases m with
  | exact => exact gammaDec_monotoneOnto
  | configured => exact configured_monotoneOnto Config.rawDec16 _ gammaDec_monotoneOnto

theorem gammaEncode16_monotoneOnto (m : GammaMode) : MonotoneOnto (gammaEncode16 m) 65535 := by
  cases m with
  | exact => exact gammaEnc_monotoneOnto
  | configured => exact configured_monotoneOnto Config.rawEnc16 _ gammaEnc_monotoneOnto

theorem gammaEncode16to8_monotoneOnto (m : GammaMode) : MonotoneOnto (gammaEncode16to8 m) 255 := by
  cases m with
  | exact => exact gammaEnc8_monotoneOnto
  | configured => exact configured_monotoneOnto Config.rawEnc16to8 _ gammaEnc8_monotoneOnto

end Sys2Proof.Machine
end

section
/-! SUPPORT. What the instructions answer, said once for each: a format S instruction by its operand kind and its result
function, the two format T units by their formats. Order and maximum of the responses follow from those of the functions. -/

namespace Sys2Proof.Machine

open Sys2Proof.Claims

/-! Format S. -/

theorem lane_toNat_ofNat {y : Nat} (h : y < 2 ^ 16) : (BitVec.ofNat 16 y).toNat = y := by
  rw [BitVec.toNat_ofNat, Nat.mod_eq_of_lt h]

theorem scalarResponse_eq_ofNat {y : Nat} (h : y < 2 ^ 16) : scalarResponse y = BitVec.ofNat 48 y :=
  BitVec.eq_of_toNat_eq (by rw [scalarResponse_toNat h, BitVec.toNat_ofNat, Nat.mod_eq_of_lt (by omega)])

/-- The contract and the meaning of a format S instruction: its operand is of kind `k`, its result in a gamma mode is `f`. -/
structure Computes (mk : Ignored → Lane → Instr) (k : ChannelKind) (f : GammaMode → Lane → Nat) : Prop where
  wellFormed : ∀ ign x, (mk ign x).wellFormed = kindHolds k x
  exec_eq : ∀ ign x s, exec (mk ign x) s = answerScalar (kindHolds k x) (mk ign x) (f s.gammaMode x) s

/-- `f` is non-decreasing on the operands of kind `k`, with results of one lane. -/
def NonDecreasing (k : ChannelKind) (f : Lane → Nat) : Prop :=
  ∀ x y : Lane, x ≤ y → y.toNat ≤ kindMax k → f x ≤ f y ∧ f y < 2 ^ 16

/-- Responses come in the order of their in-range operands (10_state.md R35). -/
def AnswersInOrder (mk : Ignored → Lane → Instr) : Prop :=
  ∀ (s : State) (ign : Ignored) (x y : Lane), x ≤ y → (mk ign x).wellFormed = true → (mk ign y).wellFormed = true →
    ∃ p q, exec (mk ign x) s = .next (answered s p) ∧ exec (mk ign y) s = .next (answered s q) ∧ p ≤ q

section
variable {mk : Ignored → Lane → Instr} {k : ChannelKind} {f : GammaMode → Lane → Nat}

theorem Computes.answers (C : Computes mk k f) {x : Lane} (hx : x.toNat ≤ kindMax k) (ign : Ignored) (s : State) :
    exec (mk ign x) s = .next (answered s (scalarResponse (f s.gammaMode x))) := by
  rw [C.exec_eq, answerScalar_inRange ((kindHolds_iff k x).2 hx)]
  rfl

/-- The largest operand of the kind is answered with `f`'s value there. -/
theorem Computes.answers_max (C : Computes mk k f) {s : State} {y : Nat}
    (hf : f s.gammaMode (BitVec.ofNat 16 (kindMax k)) = y) (hy : y < 2 ^ 16) (ign : Ignored) :
    exec (mk ign (BitVec.ofNat 16 (kindMax k))) s = .next (answered s (BitVec.ofNat 48 y)) := by
  rw [C.answers (lane_toNat_ofNat (kindMax_lt k)).le, hf, scalarResponse_eq_ofNat hy]

theorem Computes.answersInOrder (C : Computes mk k f) (hf : ∀ m, NonDecreasing k (f m)) : AnswersInOrder mk := by
  intro s ign x y hxy hx hy
  rw [C.wellFormed, kindHolds_iff] at hx hy
  obtain ⟨hle, hlt⟩ := hf s.gammaMode x y hxy hy
  refine ⟨_, _, C.answers hx ign s, C.answers hy ign s, BitVec.le_def.2 ?_⟩
  rwa [scalarResponse_toNat (hle.trans_lt hlt), scalarResponse_toNat hlt]

/-- A result that falls from a positive value to 0 shows in the responses. -/
theorem Computes.answers_fall (C : Computes mk k f) {x y : Lane} (hxy : x ≤ y) (hy : y.toNat ≤ kindMax k)
    (fall : ∀ m, f m y = 0 ∧ 0 < f m x ∧ f m x < 2 ^ 16) (s : State) (ign : Ignored) :
    ∃ (x y : Lane) (p q : Response), x ≤ y ∧ exec (mk ign x) s = .next (answered s p) ∧
      exec (mk ign y) s = .next (answered s q) ∧ q < p ∧ q = 0 := by
  obtain ⟨hzero, hpos, hlt⟩ := fall s.gammaMode
  have hx : x.toNat ≤ kindMax k := (BitVec.le_def.1 hxy).trans hy
  refine ⟨x, y, _, _, hxy, C.answers hx ign s, C.answers hy ign s, BitVec.lt_def.2 ?_, ?_⟩
  · rwa [hzero, scalarResponse_toNat (by decide), scalarResponse_toNat hlt]
  · rw [hzero]
    rfl

end

/-! The range rescaler, a pair of instructions at a time. -/

/-- `up` and `down` are the two directions of range pair `p` between kinds `small` and `large`. -/
structure RescalesPair (p : RangePair) (small large : ChannelKind) (up down : Ignored → Lane → Instr) : Prop where
  small_max : p.small = kindMax small
  large_max : p.large = kindMax large
  small_le_large : p.small ≤ p.large
  up_computes : Computes up small (fun _ x => toLarge p x.toNat)
  down_computes : Computes down large (fun _ x => toSmall p x.toNat)

section
variable {p : RangePair} {small large : ChannelKind} {up down : Ignored → Lane → Instr}

theorem RescalesPair.small_pos (R : RescalesPair p small large up down) : 0 < p.small := R.small_max ▸ kindMax_pos small

theorem RescalesPair.large_pos (R : RescalesPair p small large up down) : 0 < p.large := R.large_max ▸ kindMax_pos large

theorem RescalesPair.large_lt (R : RescalesPair p small large up down) : p.large < 2 ^ 16 := R.large_max ▸ kindMax_lt large

theorem RescalesPair.up_answersInOrder (R : RescalesPair p small large up down) : AnswersInOrder up := by
  refine R.up_computes.answersInOrder fun _ _ _ hxy hy => ⟨toLarge_mono p hxy, ?_⟩
  exact (toLarge_le R.small_pos R.small_le_large (R.small_max ▸ hy)).trans_lt R.large_lt

theorem RescalesPair.down_answersInOrder (R : RescalesPair p small large up down) (hp : p.NeverWraps) :
    AnswersInOrder down := by
  refine R.down_computes.answersInOrder fun _ _ _ hxy hy => ?_
  rw [← R.large_max] at hy
  exact ⟨toSmall_mono hp (le_trans hxy hy) hy hxy,
    (toSmall_le R.large_pos hy).trans_lt (R.small_le_large.trans_lt R.large_lt)⟩

theorem RescalesPair.up_answers_max (R : RescalesPair p small large up down) (hp : p.angle = false) (s : State)
    (ign : Ignored) : exec (up ign (BitVec.ofNat 16 p.small)) s = .next (answered s (BitVec.ofNat 48 p.large)) := by
  have hmax : toLarge p (BitVec.ofNat 16 (kindMax small)).toNat = p.large := by
    rw [lane_toNat_ofNat (kindMax_lt small), ← R.small_max, toLarge_small hp R.small_pos]
  rw [R.small_max]
  exact R.up_computes.answers_max hmax R.large_lt ign

theorem RescalesPair.down_answers_max (R : RescalesPair p small large up down) (hp : p.angle = false) (s : State)
    (ign : Ignored) : exec (down ign (BitVec.ofNat 16 p.large)) s = .next (answered s (BitVec.ofNat 48 p.small)) := by
  have hmax : toSmall p (BitVec.ofNat 16 (kindMax large)).toNat = p.small := by
    rw [lane_toNat_ofNat (kindMax_lt large), ← R.large_max, toSmall_large hp R.large_pos]
  rw [R.large_max]
  exact R.down_computes.answers_max hmax (R.small_le_large.trans_lt R.large_lt) ign

end

theorem rescales_pair0 : RescalesPair pair0 .u5 .u8 .rsU5U8 .rsU8U5 :=
  ⟨rfl, rfl, by decide, ⟨fun _ _ => rfl, fun _ _ _ => rfl⟩, ⟨fun _ _ => rfl, fun _ _ _ => rfl⟩⟩
theorem rescales_pair1 : RescalesPair pair1 .u5 .u16 .rsU5U16 .rsU16U5 :=
  ⟨rfl, rfl, by decide, ⟨fun _ _ => rfl, fun _ _ _ => rfl⟩, ⟨fun _ _ => rfl, fun _ _ _ => rfl⟩⟩
theorem rescales_pair2 : RescalesPair pair2 .u6 .u8 .rsU6U8 .rsU8U6 :=
  ⟨rfl, rfl, by decide, ⟨fun _ _ => rfl, fun _ _ _ => rfl⟩, ⟨fun _ _ => rfl, fun _ _ _ => rfl⟩⟩
theorem rescales_pair3 : RescalesPair pair3 .u6 .u16 .rsU6U16 .rsU16U6 :=
  ⟨rfl, rfl, by decide, ⟨fun _ _ => rfl, fun _ _ _ => rfl⟩, ⟨fun _ _ => rfl, fun _ _ _ => rfl⟩⟩
theorem rescales_pair4 : RescalesPair pair4 .u8 .u8 .rsU8U8 .rsU8U8I :=
  ⟨rfl, rfl, by decide, ⟨fun _ _ => rfl, fun _ _ _ => rfl⟩, ⟨fun _ _ => rfl, fun _ _ _ => rfl⟩⟩
theorem rescales_pair5 : RescalesPair pair5 .u8 .u16 .rsU8U16 .rsU16U8 :=
  ⟨rfl, rfl, by decide, ⟨fun _ _ => rfl, fun _ _ _ => rfl⟩, ⟨fun _ _ => rfl, fun _ _ _ => rfl⟩⟩
theorem rescales_pair6 : RescalesPair pair6 .u16 .u16 .rsU16U16 .rsU16U16I :=
  ⟨rfl, rfl, by decide, ⟨fun _ _ => rfl, fun _ _ _ => rfl⟩, ⟨fun _ _ => rfl, fun _ _ _ => rfl⟩⟩
theorem rescales_pair7 : RescalesPair pair7 .pct .u8 .rsPctU8 .rsU8Pct :=
  ⟨rfl, rfl, by decide, ⟨fun _ _ => rfl, fun _ _ _ => rfl⟩, ⟨fun _ _ => rfl, fun _ _ _ => rfl⟩⟩
theorem rescales_pair8 : RescalesPair pair8 .pct .u16 .rsPctU16 .rsU16Pct :=
  ⟨rfl, rfl, by decide, ⟨fun _ _ => rfl, fun _ _ _ => rfl⟩, ⟨fun _ _ => rfl, fun _ _ _ => rfl⟩⟩
theorem rescales_pair9 : RescalesPair pair9 .a8 .deg .rsA8Deg .rsDegA8 :=
  ⟨rfl, rfl, by decide, ⟨fun _ _ => rfl, fun _ _ _ => rfl⟩, ⟨fun _ _ => rfl, fun _ _ _ => rfl⟩⟩
theorem rescales_pair10 : RescalesPair pair10 .deg .a16 .rsDegA16 .rsA16Deg :=
  ⟨rfl, rfl, by decide, ⟨fun _ _ => rfl, fun _ _ _ => rfl⟩, ⟨fun _ _ => rfl, fun _ _ _ => rfl⟩⟩
theorem rescales_pair11 : RescalesPair pair11 .a8 .a16 .rsA8A16 .rsA16A8 :=
  ⟨rfl, rfl, by decide, ⟨fun _ _ => rfl, fun _ _ _ => rfl⟩, ⟨fun _ _ => rfl, fun _ _ _ => rfl⟩⟩

/-! The gamma units. -/

theorem computes_gdG8L8 : Computes .gdG8L8 .u8 (fun _ x => romRead romG8L8 x.toNat) := ⟨fun _ _ => rfl, fun _ _ _ => rfl⟩
theorem computes_gdG8L16 : Computes .gdG8L16 .u8 (fun _ x => romRead romG8L16 x.toNat) := ⟨fun _ _ => rfl, fun _ _ _ => rfl⟩
theorem computes_gdG16L16 : Computes .gdG16L16 .u16 gammaDecode16 := ⟨fun _ _ => rfl, fun _ _ _ => rfl⟩
theorem computes_geL8G8 : Computes .geL8G8 .u8 (fun _ x => romRead romL8G8 x.toNat) := ⟨fun _ _ => rfl, fun _ _ _ => rfl⟩
theorem computes_geL16G8 : Computes .geL16G8 .u16 gammaEncode16to8 := ⟨fun _ _ => rfl, fun _ _ _ => rfl⟩
theorem computes_geL16G16 : Computes .geL16G16 .u16 gammaEncode16 := ⟨fun _ _ => rfl, fun _ _ _ => rfl⟩

theorem nonDecreasing_romRead {n : Nat} {rom : List (BitVec n)} (hn : n ≤ 16)
    (h : MonotoneOn (romRead rom) (Set.Iic 255)) : NonDecreasing .u8 (fun x => romRead rom x.toNat) :=
  fun _ y hxy hy => ⟨h (le_trans hxy hy) hy hxy, (romRead_lt rom y.toNat).trans_le (Nat.pow_le_pow_right two_pos hn)⟩

theorem nonDecreasing_of_monotoneOnto {f : Lane → Nat} {top : Nat} (h : MonotoneOnto f top) (htop : top < 2 ^ 16) :
    NonDecreasing .u16 f :=
  fun x y hxy _ => ⟨h.1 x y hxy, monotoneOnto_lt h htop y⟩

/-! Format T: the largest channel of a colour is its value. -/

/-- The meaning of the eight H2R instructions, by their formats. -/
theorem exec_hsvInstrs : ∀ q ∈ hsvInstrs, ∀ (h sat v : Lane) (s : State), exec (q.1 h sat v) s =
    answerTuple (hsvHolds q.2.1 h sat v) (q.1 h sat v) (hsvToRgb q.2.1 q.2.2 h.toNat sat.toNat v.toNat) s := by
  simp only [hsvInstrs, List.forall_mem_cons, List.not_mem_nil, false_imp_iff, implies_true, and_true]
  exact ⟨fun _ _ _ _ => rfl, fun _ _ _ _ => rfl, fun _ _ _ _ => rfl, fun _ _ _ _ => rfl,
    fun _ _ _ _ => rfl, fun _ _ _ _ => rfl, fun _ _ _ _ => rfl, fun _ _ _ _ => rfl⟩

/-- The meaning of the eight R2H instructions, by their formats. -/
theorem exec_rgbInstrs : ∀ q ∈ rgbInstrs, ∀ (r g b : Lane) (s : State), exec (q.1 r g b) s =
    answerTuple (rgbHolds q.2.2 r g b) (q.1 r g b) (rgbToHsv q.2.1 q.2.2 r.toNat g.toNat b.toNat) s := by
  simp only [rgbInstrs, List.forall_mem_cons, List.not_mem_nil, false_imp_iff, implies_true, and_true]
  exact ⟨fun _ _ _ _ => rfl, fun _ _ _ _ => rfl, fun _ _ _ _ => rfl, fun _ _ _ _ => rfl,
    fun _ _ _ _ => rfl, fun _ _ _ _ => rfl, fun _ _ _ _ => rfl, fun _ _ _ _ => rfl⟩

theorem maxSv_pos (f : HsvFormat) : 0 < maxSv f := by cases f <;> decide

theorem maxSv_lt (f : HsvFormat) : maxSv f < 2 ^ 16 := by cases f <;> decide

theorem hWrap_pos (f : HsvFormat) : 0 < hWrap f := by cases f <;> decide

theorem maxRgb_pos (f : RgbFormat) : 0 < maxRgb f := by cases f <;> decide

theorem maxRgb_lt (f : RgbFormat) : maxRgb f < 2 ^ 16 := by cases f <;> decide

/-- The largest channel of a three-channel result. -/
def Tuple.largest (t : Tuple) : Nat := max t.c2 (max t.c1 t.c0)

theorem tupleResponse_largest {t : Tuple} (h : t.largest < 2 ^ 16) :
    max (rspLane2 (tupleResponse t)).toNat (max (rspLane1 (tupleResponse t)).toNat (rspLane0 (tupleResponse t)).toNat) =
      t.largest := by
  unfold Tuple.largest at *
  simp only [max_lt_iff] at h
  obtain ⟨h2, h1, h0⟩ := h
  simp only [rspLane2_tupleResponse, rspLane1_tupleResponse, rspLane0_tupleResponse, BitVec.toNat_ofNat,
    Nat.mod_eq_of_lt h2, Nat.mod_eq_of_lt h1, Nat.mod_eq_of_lt h0]

/-- In every sector one channel is `top`, and none is above it while `part` fits between `bot` and `top`. -/
theorem assignSector_largest (sector : Nat) {top bot part : Nat} (h : bot + part ≤ top) :
    (assignSector sector top bot part).largest = top := by
  unfold assignSector Tuple.largest
  split <;> dsimp only <;> omega

/-- The largest channel of an H2R result is the rescaled value, whatever the hue (43_hsv_to_rgb.md R182): the chroma part never
exceeds the range, nor the range the value. -/
theorem hueSectorToRgb_largest {hWrap maxSv maxRgb h s v : Nat} (hw : 0 < hWrap) (hs : s ≤ maxSv) :
    (hueSectorToRgb hWrap maxSv maxRgb h s v).largest = rhu (v * maxRgb) maxSv := by
  have range_le : rhu (rangeHsv maxSv s v * maxRgb) maxSv ≤ rhu (v * maxRgb) maxSv := by
    refine rhu_mono _ (Nat.mul_le_mul_right _ (Nat.div_le_of_le_mul ?_))
    rw [Nat.mul_comm maxSv]
    exact Nat.mul_le_mul_left v hs
  have part_le : h * 6 % hWrap * rhu (rangeHsv maxSv s v * maxRgb) maxSv / hWrap ≤
      rhu (rangeHsv maxSv s v * maxRgb) maxSv :=
    Nat.div_le_of_le_mul (Nat.mul_le_mul_right _ (Nat.mod_lt _ hw).le)
  exact assignSector_largest _ (by omega)

theorem hsvToRgb_largest_of_maxSv (f : HsvFormat) (w : RgbFormat) (h : Nat) {s : Nat} (hs : s ≤ maxSv f) :
    (hsvToRgb f w h s (maxSv f)).largest = maxRgb w := by
  rw [hsvToRgb, hueSectorToRgb_largest (hWrap_pos f) hs, rhu_mul_right _ (maxSv_pos f)]

/-- The value channel of R2H, of a gray as of any other colour, is the rescaled largest channel (44_rgb_to_hsv.md R213). -/
theorem rgbToHue_c0 (hWrap maxSv maxRgb r g b : Nat) :
    (rgbToHue hWrap maxSv maxRgb r g b).c0 = rhu (max r (max g b) * maxSv) maxRgb := by
  unfold rgbToHue
  dsimp only
  split <;> rfl

theorem rgbToHsv_c0_of_maxRgb (f : HsvFormat) {w : RgbFormat} {r g b : Nat} (h : max r (max g b) = maxRgb w) :
    (rgbToHsv f w r g b).c0 = maxSv f := by
  rw [rgbToHsv, rgbToHue_c0, h, rhu_mul_right _ (maxRgb_pos w)]

/-- An H2R instruction at the largest value gives a colour whose largest channel is `max_rgb`. -/
theorem hsvInstrs_answer_largest {q : (Lane → Lane → Lane → Instr) × HsvFormat × RgbFormat} (hq : q ∈ hsvInstrs)
    {h sat : Lane} (hh : h.toNat < hWrap q.2.1) (hsat : sat.toNat ≤ maxSv q.2.1) (s : State) :
    ∃ r, exec (q.1 h sat (BitVec.ofNat 16 (maxSv q.2.1))) s = .next (answered s r) ∧
      max (rspLane2 r).toNat (max (rspLane1 r).toNat (rspLane0 r).toNat) = maxRgb q.2.2 := by
  have value : (BitVec.ofNat 16 (maxSv q.2.1)).toNat = maxSv q.2.1 := lane_toNat_ofNat (maxSv_lt _)
  have largest := hsvToRgb_largest_of_maxSv q.2.1 q.2.2 h.toNat hsat
  refine ⟨tupleResponse (hsvToRgb q.2.1 q.2.2 h.toNat sat.toNat (maxSv q.2.1)), ?_, ?_⟩
  · rw [exec_hsvInstrs q hq, answerTuple_inRange ((hsvHolds_iff _ _ _ _).2 ⟨hh, hsat, value.le⟩), value]
    rfl
  · rw [tupleResponse_largest (largest ▸ maxRgb_lt _), largest]

/-- An R2H instruction on a colour whose largest channel is `max_rgb` gives the largest value. -/
theorem rgbInstrs_answer_maxSv {q : (Lane → Lane → Lane → Instr) × HsvFormat × RgbFormat} (hq : q ∈ rgbInstrs)
    {r g b : Lane} (hr : r.toNat ≤ maxRgb q.2.2) (hg : g.toNat ≤ maxRgb q.2.2) (hb : b.toNat ≤ maxRgb q.2.2)
    (hmax : max r.toNat (max g.toNat b.toNat) = maxRgb q.2.2) (s : State) :
    ∃ a, exec (q.1 r g b) s = .next (answered s a) ∧ (rspLane0 a).toNat = maxSv q.2.1 := by
  refine ⟨tupleResponse (rgbToHsv q.2.1 q.2.2 r.toNat g.toNat b.toNat), ?_, ?_⟩
  · rw [exec_rgbInstrs q hq, answerTuple_inRange ((rgbHolds_iff _ _ _ _).2 ⟨hr, hg, hb⟩)]
    rfl
  · rw [rspLane0_tupleResponse, rgbToHsv_c0_of_maxRgb _ hmax, lane_toNat_ofNat (maxSv_lt _)]

end Sys2Proof.Machine
end

section
/-! PROOF. The invariants of 10_state.md R33 and R35, from the rows above. -/

namespace Sys2Proof.Machine

open Sys2Proof.Claims

/-- Settles O51. Non-angle rescales round exactly at the maximum, a table's last entry and a gamma function's last value are
the largest result, and the largest channel of a colour is its rescaled value. -/
theorem maximumMapsToMaximum : Obligations.MaximumMapsToMaximum := by
  intro s
  refine ⟨?scalar, ?hsv, ?rgb⟩
  case scalar =>
    simp only [List.forall_mem_cons, List.not_mem_nil, false_imp_iff, implies_true, and_true]
    exact ⟨rescales_pair0.up_answers_max rfl s, rescales_pair0.down_answers_max rfl s,
      rescales_pair1.up_answers_max rfl s, rescales_pair1.down_answers_max rfl s,
      rescales_pair2.up_answers_max rfl s, rescales_pair2.down_answers_max rfl s,
      rescales_pair3.up_answers_max rfl s, rescales_pair3.down_answers_max rfl s,
      rescales_pair4.up_answers_max rfl s, rescales_pair4.down_answers_max rfl s,
      rescales_pair5.up_answers_max rfl s, rescales_pair5.down_answers_max rfl s,
      rescales_pair6.up_answers_max rfl s, rescales_pair6.down_answers_max rfl s,
      rescales_pair7.up_answers_max rfl s, rescales_pair7.down_answers_max rfl s,
      rescales_pair8.up_answers_max rfl s, rescales_pair8.down_answers_max rfl s,
      computes_gdG8L8.answers_max (by decide) (by decide),
      computes_gdG8L16.answers_max (by decide) (by decide),
      computes_gdG16L16.answers_max (monotoneOnto_largest (gammaDecode16_monotoneOnto _)) (by decide),
      computes_geL8G8.answers_max (by decide) (by decide),
      computes_geL16G8.answers_max (monotoneOnto_largest (gammaEncode16to8_monotoneOnto _)) (by decide),
      computes_geL16G16.answers_max (monotoneOnto_largest (gammaEncode16_monotoneOnto _)) (by decide)⟩
  case hsv => exact fun q hq h sat hh hsat => hsvInstrs_answer_largest hq hh hsat s
  case rgb => exact fun q hq r g b hr hg hb hmax => rgbInstrs_answer_maxSv hq hr hg hb hmax s

/-- Settles O52. Each result function is non-decreasing on its operand kind; the two falls are from the last operand before
the wrap to the first one that wraps. -/
theorem scalarOperationsAreMonotone : Obligations.ScalarOperationsAreMonotone := by
  refine ⟨?inOrder, ?fall⟩
  case inOrder =>
    simp only [List.forall_mem_cons, List.not_mem_nil, false_imp_iff, implies_true, and_true]
    exact ⟨rescales_pair0.up_answersInOrder, rescales_pair0.down_answersInOrder (.of_not_angle rfl),
      rescales_pair1.up_answersInOrder, rescales_pair1.down_answersInOrder (.of_not_angle rfl),
      rescales_pair2.up_answersInOrder, rescales_pair2.down_answersInOrder (.of_not_angle rfl),
      rescales_pair3.up_answersInOrder, rescales_pair3.down_answersInOrder (.of_not_angle rfl),
      rescales_pair4.up_answersInOrder, rescales_pair4.down_answersInOrder (.of_not_angle rfl),
      rescales_pair5.up_answersInOrder, rescales_pair5.down_answersInOrder (.of_not_angle rfl),
      rescales_pair6.up_answersInOrder, rescales_pair6.down_answersInOrder (.of_not_angle rfl),
      rescales_pair7.up_answersInOrder, rescales_pair7.down_answersInOrder (.of_not_angle rfl),
      rescales_pair8.up_answersInOrder, rescales_pair8.down_answersInOrder (.of_not_angle rfl),
      rescales_pair9.up_answersInOrder, rescales_pair9.down_answersInOrder (fun _ => by decide),
      rescales_pair10.up_answersInOrder, rescales_pair11.up_answersInOrder,
      computes_gdG8L8.answersInOrder fun _ => nonDecreasing_romRead (by decide) romG8L8_mono,
      computes_gdG8L16.answersInOrder fun _ => nonDecreasing_romRead le_rfl romG8L16_mono,
      computes_gdG16L16.answersInOrder fun m => nonDecreasing_of_monotoneOnto (gammaDecode16_monotoneOnto m) (by decide),
      computes_geL8G8.answersInOrder fun _ => nonDecreasing_romRead (by decide) romL8G8_mono,
      computes_geL16G8.answersInOrder fun m => nonDecreasing_of_monotoneOnto (gammaEncode16to8_monotoneOnto m) (by decide),
      computes_geL16G16.answersInOrder fun m => nonDecreasing_of_monotoneOnto (gammaEncode16_monotoneOnto m) (by decide)⟩
  case fall =>
    simp only [List.forall_mem_cons, List.not_mem_nil, false_imp_iff, implies_true, and_true]
    exact ⟨rescales_pair10.down_computes.answers_fall (x := 65444) (y := 65445) (by decide) (by decide) (fun _ => by decide),
      rescales_pair11.down_computes.answers_fall (x := 65407) (y := 65408) (by decide) (by decide) (fun _ => by decide)⟩

end Sys2Proof.Machine
end

section
/-! SUPPORT. The decoder as a table: what it answers on a row of the opcode map and on an opcode outside it
(30_encoding.md R70). -/

namespace Sys2Proof.Machine

open Sys2Proof.Claims

/-- A row of UNIT 5 is there only with the R2H unit, every other row always (30_encoding.md R70). -/
def rowPresent (hasR2H : Bool) (opc : Opcode) : Bool := unitField opc != 5 || hasR2H

theorem rowPresent_iff {hasR2H : Bool} {opc : Opcode} :
    rowPresent hasR2H opc = true ↔ hasR2H = true ∨ opc.toNat / 4096 ≠ 5 := by
  rw [rowPresent, Bool.or_eq_true, bne_iff_ne, or_comm]
  rfl

/-- The decoder follows a row of the map: a word with the row's opcode is the row's instruction, unless the row is absent. -/
def DecodesAsRow (row : Opcode × (Command → Instr)) : Prop :=
  ∀ (hasR2H : Bool) (w : Command), opcodeField w = row.1 →
    decode hasR2H w = if rowPresent hasR2H row.1 then .ok (row.2 w) else .error .unitAbsent

theorem decodesAsRow_of_mem_opcodeRows : ∀ row ∈ opcodeRows, DecodesAsRow row := by
  simp only [opcodeRows, List.forall_mem_append, List.forall_mem_cons, List.not_mem_nil, false_imp_iff, implies_true,
    and_true]
  and_intros
  all_goals
    intro hasR2H w hopc
    unfold decode
    rw [hopc]
    rfl

theorem DecodesAsRow.of_present {row : Opcode × (Command → Instr)} (R : DecodesAsRow row) {hasR2H : Bool} {w : Command}
    (hopc : opcodeField w = row.1) (hpresent : rowPresent hasR2H row.1 = true) : decode hasR2H w = .ok (row.2 w) := by
  rw [R hasR2H w hopc, if_pos hpresent]

theorem DecodesAsRow.of_absent {row : Opcode × (Command → Instr)} (R : DecodesAsRow row) {hasR2H : Bool} {w : Command}
    (hopc : opcodeField w = row.1) (habsent : ¬ rowPresent hasR2H row.1 = true) :
    decode hasR2H w = .error .unitAbsent := by
  rw [R hasR2H w hopc, if_neg habsent]

theorem decode_of_notMem_opcodeRows {w : Command} (hopc : opcodeField w ∉ opcodeRows.map (·.1)) (hasR2H : Bool) :
    decode hasR2H w = .error (reservedReason (opcodeField w)) := by
  unfold decode
  split
  case h_47 => rfl
  all_goals
    next hmapped =>
      rw [hmapped] at hopc
      exact absurd (by decide) hopc

end Sys2Proof.Machine
end

section
/-! PROOF. The opcode map of 30_encoding.md R70, from the decoder read as a table. -/

namespace Sys2Proof.Machine

open Sys2Proof.Claims

/-- Settles O3. The decoder agrees with the map row by row; a word is reserved because its opcode is in no row, or
because the row is one of UNIT 5 and the unit is absent. -/
theorem opcodeMapSelectsTheInstruction : Obligations.OpcodeMapSelectsTheInstruction := by
  refine ⟨rfl, by decide, fun hasR2H w => ⟨?present, ?reserved⟩⟩
  case present =>
    intro row hrow hopc hpresent
    exact (decodesAsRow_of_mem_opcodeRows row hrow).of_present hopc (rowPresent_iff.2 hpresent)
  case reserved =>
    intro habsent
    by_cases hmapped : opcodeField w ∈ opcodeRows.map (·.1)
    · obtain ⟨row, hrow, hopc⟩ := List.mem_map.1 hmapped
      obtain ⟨hunit, hfive⟩ := habsent row hrow hopc.symm
      have hnot : ¬ rowPresent hasR2H row.1 = true := by simp [rowPresent_iff, hunit, hfive]
      exact ⟨_, (decodesAsRow_of_mem_opcodeRows row hrow).of_absent hopc.symm hnot⟩
    · exact ⟨_, decode_of_notMem_opcodeRows hmapped hasR2H⟩

end Sys2Proof.Machine
end

section
/-! SUPPORT. The range pairs as one rounding in each direction (40_range_rescaler.md R101 to R104): steps of a rounded
quotient, the round trip, the nearest landing value, and where `to_small` wraps. -/

namespace Sys2Proof.Machine

open Sys2Proof.Claims

/-! The rounding operation. -/

theorem rhu_add_mul (n k : Nat) {d : Nat} (hd : 0 < d) : rhu (n + d * k) d = rhu n d + k := by
  rw [rhu, Nat.add_right_comm, Nat.add_mul_div_left _ _ hd, rhu]

/-- A larger numerator raises the rounded quotient by the quotient of the difference or one more. -/
theorem rhu_add_cases (n b : Nat) {d : Nat} (hd : 0 < d) :
    rhu (n + b) d = rhu n d + b / d ∨ rhu (n + b) d = rhu n d + b / d + 1 := by
  rw [rhu, rhu, Nat.add_right_comm, Nat.add_div hd]
  split
  · exact .inr rfl
  · exact .inl rfl

/-- The rounding errors of the trip stay within half a large unit, so rounding back finds the start. -/
theorem rhu_rhu_of_halves_lt {m d : Nat} (hm : 0 < m) (halves : m / 2 + d / 2 < d) (x : Nat) :
    rhu (rhu (x * d) m * m) d = x := by
  obtain ⟨lower, upper⟩ := rhu_bracket (x * d) m hm
  rw [Nat.mul_comm m] at lower upper
  refine Nat.div_eq_of_lt_le (by omega) ?_
  rw [Nat.add_mul x 1 d]
  omega

/-- A large code that rounds to `q` or less is at most half way from the landing value of `q` to the next one. -/
theorem two_mul_le_landings {m d y q : Nat} (hm : 0 < m) (h : y * m + d / 2 < d * q + d) :
    2 * y ≤ rhu (q * d) m + rhu ((q + 1) * d) m := by
  obtain ⟨-, upper⟩ := rhu_bracket (q * d) m hm
  obtain ⟨-, upper_next⟩ := rhu_bracket ((q + 1) * d) m hm
  rw [Nat.add_mul q 1 d] at upper_next ⊢
  rw [Nat.mul_comm q d] at *
  by_contra! hlt
  have scaled := Nat.mul_le_mul_left m (Nat.succ_le_of_lt hlt)
  simp only [Nat.succ_eq_add_one, Nat.mul_add, Nat.mul_one, Nat.mul_left_comm m 2, Nat.mul_comm m y] at scaled
  omega

/-- A large code that rounds to `k + 1` or more is at least half way from the landing value of `k` to the next one, unless
`d` is an odd multiple of an even `m`: then both landing values are ties rounded up. -/
theorem landings_le_two_mul {m d y k : Nat} (hm : 0 < m) (tie : d % (2 * m) = m → m % 2 = 1)
    (h : d * (k + 1) ≤ y * m + d / 2) : rhu (k * d) m + rhu ((k + 1) * d) m ≤ 2 * y := by
  obtain ⟨lower, upper⟩ := rhu_bracket (k * d) m hm
  obtain ⟨lower_next, -⟩ := rhu_bracket ((k + 1) * d) m hm
  have mono : rhu (k * d) m ≤ rhu ((k + 1) * d) m := rhu_mono m (Nat.mul_le_mul_right d k.le_succ)
  rw [Nat.add_mul k 1 d] at *
  rw [Nat.mul_add d k 1, Nat.mul_comm d k] at h
  generalize rhu (k * d) m = t at *
  obtain ⟨j, hj⟩ := Nat.exists_eq_add_of_le mono
  rw [hj] at lower_next ⊢
  rw [Nat.mul_add] at lower_next
  by_contra! hlt
  have scaled := Nat.mul_le_mul_left m (Nat.succ_le_of_lt hlt)
  simp only [Nat.succ_eq_add_one, Nat.mul_add, Nat.mul_one, Nat.mul_left_comm m 2, Nat.mul_comm m y] at scaled
  have even : m % 2 = 0 := by omega
  have step : d = m * j := by omega
  have midpoint : m * (t + (t + j)) = m * (2 * y + 1) := by
    simp only [Nat.mul_add, Nat.mul_one, Nat.mul_left_comm m 2, Nat.mul_comm m y]
    omega
  have odd_step : j = 2 * (y - t) + 1 := by
    have cancelled := Nat.eq_of_mul_eq_mul_left hm midpoint
    omega
  have odd_multiple : d % (2 * m) = m := by
    rw [step, odd_step, Nat.mul_add, Nat.mul_one, Nat.mul_left_comm, ← Nat.mul_assoc, Nat.mul_add_mod,
      Nat.mod_eq_of_lt (by omega)]
  have odd := tie odd_multiple
  omega

/-- Rounding to a small code and back gives the nearest landing value (40_range_rescaler.md R105). -/
theorem rhu_rhu_nearest {m d : Nat} (hm : 0 < m) (hd : 0 < d) (tie : d % (2 * m) = m → m % 2 = 1) (x y : Nat) :
    max (rhu (rhu (y * m) d * d) m) y - min (rhu (rhu (y * m) d * d) m) y ≤
      max (rhu (x * d) m) y - min (rhu (x * d) m) y := by
  obtain ⟨lower, upper⟩ := rhu_bracket (y * m) d hd
  generalize rhu (y * m) d = q at *
  have landing_mono {a b : Nat} (hab : a ≤ b) : rhu (a * d) m ≤ rhu (b * d) m := rhu_mono m (Nat.mul_le_mul_right d hab)
  rcases lt_trichotomy x q with hlt | rfl | hgt
  · obtain ⟨k, rfl⟩ := Nat.exists_eq_add_one_of_ne_zero (Nat.ne_zero_of_lt hlt)
    have half := landings_le_two_mul hm tie lower
    have below := landing_mono (Nat.le_of_lt_succ hlt)
    have above : rhu (k * d) m ≤ rhu ((k + 1) * d) m := landing_mono k.le_succ
    omega
  · exact le_rfl
  · have half := two_mul_le_landings hm upper
    have above : rhu ((q + 1) * d) m ≤ rhu (x * d) m := landing_mono hgt
    have below := landing_mono hgt.le
    omega

/-! The two directions of a pair. -/

/-- The small side of the ratio of R101 to R104: the maximum of a plain channel, all codes of a turn of a hue. -/
def RangePair.smallSpan (p : RangePair) : Nat := if p.angle then p.small + 1 else p.small

/-- The large side of the ratio of R101 to R104. -/
def RangePair.largeSpan (p : RangePair) : Nat := if p.angle then p.large + 1 else p.large

/-- `q` of R104, before it is wrapped: `S + 1` stands for hue 0. -/
def RangePair.unwrapped (p : RangePair) (y : Nat) : Nat := rhu (y * p.smallSpan) p.largeSpan

theorem smallSpan_of_angle {p : RangePair} (hp : p.angle = true) : p.smallSpan = p.small + 1 := if_pos hp

theorem largeSpan_of_angle {p : RangePair} (hp : p.angle = true) : p.largeSpan = p.large + 1 := if_pos hp

theorem smallSpan_of_not_angle {p : RangePair} (hp : p.angle = false) : p.smallSpan = p.small := by
  simp [RangePair.smallSpan, hp]

theorem largeSpan_of_not_angle {p : RangePair} (hp : p.angle = false) : p.largeSpan = p.large := by
  simp [RangePair.largeSpan, hp]

theorem toLarge_eq_rhu (p : RangePair) (x : Nat) : toLarge p x = rhu (x * p.largeSpan) p.smallSpan := by
  unfold toLarge RangePair.largeSpan RangePair.smallSpan
  split <;> rfl

theorem toSmall_of_angle {p : RangePair} (hp : p.angle = true) (y : Nat) :
    toSmall p y = p.unwrapped y % (p.small + 1) := by
  rw [RangePair.unwrapped, smallSpan_of_angle hp, largeSpan_of_angle hp, toSmall, if_pos hp]

theorem toSmall_of_not_angle {p : RangePair} (hp : p.angle = false) (y : Nat) : toSmall p y = p.unwrapped y := by
  simp [RangePair.unwrapped, smallSpan_of_not_angle hp, largeSpan_of_not_angle hp, toSmall, hp]

/-- The wrap acts on `S + 1` only. -/
theorem toSmall_of_unwrapped_le {p : RangePair} {y : Nat} (h : p.unwrapped y ≤ p.small) : toSmall p y = p.unwrapped y := by
  cases hp : p.angle with
  | false => exact toSmall_of_not_angle hp y
  | true => rw [toSmall_of_angle hp, Nat.mod_eq_of_lt (Nat.lt_succ_of_le h)]

theorem unwrapped_mono (p : RangePair) : Monotone p.unwrapped := fun _ _ h => rhu_mono _ (Nat.mul_le_mul_right _ h)

theorem unwrapped_succ (p : RangePair) (y : Nat) :
    p.unwrapped (y + 1) = rhu (y * p.smallSpan + p.smallSpan) p.largeSpan := by
  rw [RangePair.unwrapped, Nat.add_mul, Nat.one_mul]

theorem toLarge_succ (p : RangePair) (x : Nat) :
    toLarge p (x + 1) = rhu (x * p.largeSpan + p.largeSpan) p.smallSpan := by
  rw [toLarge_eq_rhu, Nat.add_mul, Nat.one_mul]

theorem unwrapped_le_smallSpan {p : RangePair} {y : Nat} (hy : y ≤ p.largeSpan) (hl : 0 < p.largeSpan) :
    p.unwrapped y ≤ p.smallSpan := by
  calc p.unwrapped y ≤ rhu (p.largeSpan * p.smallSpan) p.largeSpan := unwrapped_mono p hy
    _ = p.smallSpan := rhu_mul_right _ hl

theorem unwrapped_le_of_neverWraps {p : RangePair} (hp : p.NeverWraps) {y : Nat} (hl : 0 < p.large) (hy : y ≤ p.large) :
    p.unwrapped y ≤ p.small := by
  cases ha : p.angle with
  | false => exact (toSmall_of_not_angle ha y) ▸ toSmall_le hl hy
  | true =>
    have top := hp ha
    rw [← smallSpan_of_angle ha, ← largeSpan_of_angle ha] at top
    exact (unwrapped_mono p hy).trans top

theorem toSmall_of_neverWraps {p : RangePair} (hp : p.NeverWraps) {y : Nat} (hl : 0 < p.large) (hy : y ≤ p.large) :
    toSmall p y = p.unwrapped y := toSmall_of_unwrapped_le (unwrapped_le_of_neverWraps hp hl hy)

/-- Between equal spans the unwrapped result is the operand. -/
theorem unwrapped_of_equal_spans {p : RangePair} (hl : 0 < p.largeSpan) (h : p.smallSpan = p.largeSpan) (y : Nat) :
    p.unwrapped y = y := by
  rw [RangePair.unwrapped, h, Nat.mul_comm]
  exact rhu_mul_right y hl

/-- One large code more raises the unwrapped result by 0 or 1, for the small side is not the wider one. -/
theorem unwrapped_succ_cases {p : RangePair} (hl : 0 < p.largeSpan) (h : p.smallSpan ≤ p.largeSpan) (y : Nat) :
    p.unwrapped (y + 1) = p.unwrapped y ∨ p.unwrapped (y + 1) = p.unwrapped y + 1 := by
  rcases h.lt_or_eq with hlt | heq
  · rw [unwrapped_succ, RangePair.unwrapped]
    simpa only [Nat.div_eq_of_lt hlt, Nat.add_zero] using rhu_add_cases (y * p.smallSpan) p.smallSpan hl
  · exact .inr (by rw [unwrapped_of_equal_spans hl heq, unwrapped_of_equal_spans hl heq])

/-- Consecutive landing values differ by the floor quotient of the spans or one more (40_range_rescaler.md R107). -/
theorem toLarge_succ_cases {p : RangePair} (hs : 0 < p.smallSpan) (x : Nat) :
    toLarge p (x + 1) = toLarge p x + p.largeSpan / p.smallSpan ∨
      toLarge p (x + 1) = toLarge p x + p.largeSpan / p.smallSpan + 1 := by
  rw [toLarge_succ, toLarge_eq_rhu p x]
  exact rhu_add_cases _ _ hs

/-- Between spans that divide, every step is the quotient. -/
theorem toLarge_succ_of_dvd {p : RangePair} (hs : 0 < p.smallSpan) {k : Nat} (hk : p.largeSpan = p.smallSpan * k) (x : Nat) :
    toLarge p (x + 1) = toLarge p x + k := by
  rw [toLarge_succ, toLarge_eq_rhu p x]
  conv_lhs => rw [show x * p.largeSpan + p.largeSpan = x * p.largeSpan + p.smallSpan * k by rw [← hk]]
  exact rhu_add_mul _ k hs

/-! The wrap of pairs 10 and 11. -/

/-- `last` is the last large code that is not nearer to the wrap point than to `S` (40_range_rescaler.md R108). -/
structure RangePair.WrapsAfter (p : RangePair) (last : Nat) : Prop where
  angle : p.angle = true
  last_lt : last < p.large
  unwrapped_last : p.unwrapped last = p.small
  unwrapped_next : p.unwrapped (last + 1) = p.small + 1

theorem pair10_wrapsAfter : pair10.WrapsAfter 65444 := ⟨rfl, by decide, by decide, by decide⟩

theorem pair11_wrapsAfter : pair11.WrapsAfter 65407 := ⟨rfl, by decide, by decide, by decide⟩

section
variable {p : RangePair} {last y : Nat}

theorem RangePair.WrapsAfter.toSmall_before (W : p.WrapsAfter last) (hy : y ≤ last) : toSmall p y = p.unwrapped y :=
  toSmall_of_unwrapped_le (W.unwrapped_last ▸ unwrapped_mono p hy)

theorem RangePair.WrapsAfter.toSmall_mono (W : p.WrapsAfter last) : MonotoneOn (toSmall p) (Set.Iic last) := by
  intro x hx y hy h
  rw [W.toSmall_before hx, W.toSmall_before hy]
  exact unwrapped_mono p h

theorem RangePair.WrapsAfter.toSmall_last (W : p.WrapsAfter last) : toSmall p last = p.small := by
  rw [W.toSmall_before le_rfl, W.unwrapped_last]

theorem RangePair.WrapsAfter.unwrapped_after (W : p.WrapsAfter last) (hlast : last < y) (hy : y ≤ p.large) :
    p.unwrapped y = p.small + 1 := by
  have hl : p.largeSpan = p.large + 1 := largeSpan_of_angle W.angle
  refine le_antisymm ?_ (W.unwrapped_next ▸ unwrapped_mono p hlast)
  exact smallSpan_of_angle W.angle ▸ unwrapped_le_smallSpan (by omega) (by omega)

theorem RangePair.WrapsAfter.toSmall_after (W : p.WrapsAfter last) (hlast : last < y) (hy : y ≤ p.large) :
    toSmall p y = 0 := by
  rw [toSmall_of_angle W.angle, W.unwrapped_after hlast hy, Nat.mod_self]

end

/-! What the twelve pairs have in common. -/

theorem rangePairs_small_pos : ∀ p ∈ rangePairs, 0 < p.small := by decide

theorem rangePairs_small_le_large : ∀ p ∈ rangePairs, p.small ≤ p.large := by decide

theorem rangePairs_smallSpan_pos : ∀ p ∈ rangePairs, 0 < p.smallSpan := by decide

theorem rangePairs_largeSpan_pos : ∀ p ∈ rangePairs, 0 < p.largeSpan := by decide

theorem rangePairs_smallSpan_le_largeSpan : ∀ p ∈ rangePairs, p.smallSpan ≤ p.largeSpan := by decide

theorem rangePairs_halves_lt : ∀ p ∈ rangePairs, p.smallSpan / 2 + p.largeSpan / 2 < p.largeSpan := by decide

/-- No pair has two neighbouring landing values that are both ties. -/
theorem rangePairs_no_double_tie :
    ∀ p ∈ rangePairs, p.largeSpan % (2 * p.smallSpan) = p.smallSpan → p.smallSpan % 2 = 1 := by decide

/-- Only pairs 10 and 11 wrap (40_range_rescaler.md R108). -/
theorem rangePairs_neverWraps : ∀ p ∈ rangePairs, p ≠ pair10 → p ≠ pair11 → p.NeverWraps := by
  unfold RangePair.NeverWraps
  decide

theorem rangePairs_large_pos : ∀ p ∈ rangePairs, 0 < p.large := by decide

theorem toLarge_le_of_mem {p : RangePair} (hp : p ∈ rangePairs) {x : Nat} (hx : x ≤ p.small) : toLarge p x ≤ p.large :=
  toLarge_le (rangePairs_small_pos p hp) (rangePairs_small_le_large p hp) hx

theorem unwrapped_toLarge {p : RangePair} (hp : p ∈ rangePairs) (x : Nat) : p.unwrapped (toLarge p x) = x := by
  rw [toLarge_eq_rhu]
  exact rhu_rhu_of_halves_lt (rangePairs_smallSpan_pos p hp) (rangePairs_halves_lt p hp) x

theorem toSmall_toLarge {p : RangePair} (hp : p ∈ rangePairs) {x : Nat} (hx : x ≤ p.small) : toSmall p (toLarge p x) = x := by
  have back := unwrapped_toLarge hp x
  rw [toSmall_of_unwrapped_le (back.trans_le hx), back]

/-- A rounding that can be undone merges no two values. -/
theorem toLarge_strictMono {p : RangePair} (hp : p ∈ rangePairs) : StrictMono (toLarge p) :=
  (toLarge_mono p).strictMono_of_injective (Function.LeftInverse.injective (unwrapped_toLarge hp))

/-- `to_small` of consecutive codes, neither of them wrapped, differs by 0 or 1. -/
theorem toSmall_succ_cases {p : RangePair} (hp : p ∈ rangePairs) {y : Nat} (hy : toSmall p y = p.unwrapped y)
    (hnext : toSmall p (y + 1) = p.unwrapped (y + 1)) :
    toSmall p (y + 1) = toSmall p y ∨ toSmall p (y + 1) = toSmall p y + 1 := by
  rw [hy, hnext]
  exact unwrapped_succ_cases (rangePairs_largeSpan_pos p hp) (rangePairs_smallSpan_le_largeSpan p hp) y

/-- The steps of a pair that wraps: as elsewhere before the wrap and after it, and from `S` to 0 at it. -/
theorem RangePair.WrapsAfter.steps {p : RangePair} {last : Nat} (W : p.WrapsAfter last) (hp : p ∈ rangePairs) :
    (∀ y, y < p.large → y ≠ last → toSmall p (y + 1) = toSmall p y ∨ toSmall p (y + 1) = toSmall p y + 1) ∧
    toSmall p last = p.small ∧ (∀ y, last < y → y ≤ p.large → toSmall p y = 0) ∧
    toSmall p (last + 1) = (toSmall p last + 1) % (p.small + 1) := by
  refine ⟨fun y hy hne => ?_, W.toSmall_last, fun y hlast hy => W.toSmall_after hlast hy, ?_⟩
  · rcases Nat.lt_or_gt_of_ne hne with hlt | hgt
    · exact toSmall_succ_cases hp (W.toSmall_before hlt.le) (W.toSmall_before hlt)
    · exact .inl (by rw [W.toSmall_after hgt hy.le, W.toSmall_after (hgt.trans y.lt_succ_self) hy])
  · rw [W.toSmall_after last.lt_succ_self W.last_lt, W.toSmall_last, Nat.mod_self]

/-- The landing value of the unwrapped result is the nearest one on the line. -/
theorem toLarge_unwrapped_nearest {p : RangePair} (hp : p ∈ rangePairs) (x y : Nat) :
    max (toLarge p (p.unwrapped y)) y - min (toLarge p (p.unwrapped y)) y ≤ max (toLarge p x) y - min (toLarge p x) y := by
  rw [toLarge_eq_rhu, toLarge_eq_rhu]
  exact rhu_rhu_nearest (rangePairs_smallSpan_pos p hp) (rangePairs_largeSpan_pos p hp) (rangePairs_no_double_tie p hp) x y

theorem channelDistance_of_not_angle {p : RangePair} (hp : p.angle = false) (a b : Nat) :
    channelDistance p a b = max a b - min a b := by
  simp [channelDistance, hp]

theorem channelDistance_of_angle {p : RangePair} (hp : p.angle = true) (a b : Nat) :
    channelDistance p a b = min (max a b - min a b) (p.largeSpan - (max a b - min a b)) := by
  simp [channelDistance, hp, largeSpan_of_angle hp]

/-- One turn of small codes further the landing value is one turn of large codes further. -/
theorem toLarge_add_smallSpan {p : RangePair} (hs : 0 < p.smallSpan) (x : Nat) :
    toLarge p (x + p.smallSpan) = toLarge p x + p.largeSpan := by
  rw [toLarge_eq_rhu, toLarge_eq_rhu, Nat.add_mul, rhu_add_mul _ _ hs]

theorem unwrapped_add_largeSpan {p : RangePair} (hl : 0 < p.largeSpan) (y : Nat) :
    p.unwrapped (y + p.largeSpan) = p.unwrapped y + p.smallSpan := by
  rw [RangePair.unwrapped, Nat.add_mul, rhu_add_mul _ _ hl, RangePair.unwrapped]

/-- Around the circle the wrapped result lands no farther from `y` than the unwrapped one on the line. -/
theorem channelDistance_toSmall_le {p : RangePair} (hp : p ∈ rangePairs) (ha : p.angle = true) {y : Nat}
    (hy : y ≤ p.large) : channelDistance p (toLarge p (toSmall p y)) y ≤
      max (toLarge p (p.unwrapped y)) y - min (toLarge p (p.unwrapped y)) y := by
  have hspan : p.largeSpan = p.large + 1 := largeSpan_of_angle ha
  have hq : p.unwrapped y ≤ p.smallSpan := unwrapped_le_smallSpan (by omega) (by omega)
  rw [channelDistance_of_angle ha]
  rcases hq.lt_or_eq with hlt | hwrap
  · rw [smallSpan_of_angle ha] at hlt
    rw [toSmall_of_unwrapped_le (Nat.le_of_lt_succ hlt)]
    exact min_le_left _ _
  · have turn := toLarge_add_smallSpan (rangePairs_smallSpan_pos p hp) 0
    have zero : toSmall p y = 0 := by
      rw [toSmall_of_angle ha, hwrap, smallSpan_of_angle ha, Nat.mod_self]
    rw [Nat.zero_add] at turn
    rw [zero, hwrap, turn]
    omega

/-- The way round the circle the other way is a way on the line to the landing value one turn up or down. -/
theorem toLarge_unwrapped_nearest_around {p : RangePair} (hp : p ∈ rangePairs) {x y : Nat}
    (hx : toLarge p x ≤ p.largeSpan) (hy : y ≤ p.largeSpan) :
    max (toLarge p (p.unwrapped y)) y - min (toLarge p (p.unwrapped y)) y ≤
      p.largeSpan - (max (toLarge p x) y - min (toLarge p x) y) := by
  have hs := rangePairs_smallSpan_pos p hp
  rcases Nat.le_total (toLarge p x) y with hle | hge
  · have up := toLarge_unwrapped_nearest hp (x + p.smallSpan) y
    rw [toLarge_add_smallSpan hs] at up
    omega
  · have down := toLarge_unwrapped_nearest hp x (y + p.largeSpan)
    rw [unwrapped_add_largeSpan (rangePairs_largeSpan_pos p hp), toLarge_add_smallSpan hs] at down
    omega

/-- The landing value of a result is the nearest one (40_range_rescaler.md R105). -/
theorem toLarge_toSmall_nearest {p : RangePair} (hp : p ∈ rangePairs) {x y : Nat} (hx : x ≤ p.small) (hy : y ≤ p.large) :
    channelDistance p (toLarge p (toSmall p y)) y ≤ channelDistance p (toLarge p x) y := by
  have hland := toLarge_le_of_mem hp hx
  cases ha : p.angle with
  | false =>
    rw [channelDistance_of_not_angle ha, channelDistance_of_not_angle ha, toSmall_of_not_angle ha]
    exact toLarge_unwrapped_nearest hp x y
  | true =>
    have hspan : p.largeSpan = p.large + 1 := largeSpan_of_angle ha
    refine (channelDistance_toSmall_le hp ha hy).trans ?_
    rw [channelDistance_of_angle ha]
    exact le_min (toLarge_unwrapped_nearest hp x y) (toLarge_unwrapped_nearest_around hp (by omega) (by omega))

end Sys2Proof.Machine
end

section
/-! PROOF. The properties of the rescaling functions (40_range_rescaler.md R105, R107, R108). -/

namespace Sys2Proof.Machine

open Sys2Proof.Claims

/-- Settles O11, by rounding back and by the nearest landing value; the composition the other way loses the 1 of pair 0. -/
theorem smallToLargeToSmallIsExact : Obligations.SmallToLargeToSmallIsExact := by
  refine ⟨?exact, by decide, by decide, ?nearest, by decide⟩
  case exact => exact fun p hp x hx => ⟨toLarge_le_of_mem hp hx, toSmall_toLarge hp hx⟩
  case nearest => exact fun p hp y hy x hx => toLarge_toSmall_nearest hp hx hy

/-- Settles O13. The step is the quotient of the spans or one more; where the spans divide it is the quotient, and
elsewhere a small value with each of the two steps is given. -/
theorem landingValuesAreEvenlySpread : Obligations.LandingValuesAreEvenlySpread := by
  refine ⟨?plain, ?angle, ?both, ?exact, by decide⟩
  case plain =>
    intro p hp ha x _
    rw [← smallSpan_of_not_angle ha, ← largeSpan_of_not_angle ha]
    exact toLarge_succ_cases (rangePairs_smallSpan_pos p hp) x
  case angle =>
    intro p hp ha x _
    rw [← smallSpan_of_angle ha, ← largeSpan_of_angle ha]
    exact toLarge_succ_cases (rangePairs_smallSpan_pos p hp) x
  case both =>
    simp only [List.forall_mem_cons, List.not_mem_nil, false_imp_iff, implies_true, and_true]
    exact ⟨⟨fun x _ => toLarge_succ_cases (by decide) x, ⟨0, by decide⟩, ⟨2, by decide⟩⟩,
      ⟨fun x _ => toLarge_succ_cases (by decide) x, ⟨0, by decide⟩, ⟨15, by decide⟩⟩,
      ⟨fun x _ => toLarge_succ_cases (by decide) x, ⟨0, by decide⟩, ⟨10, by decide⟩⟩,
      ⟨fun x _ => toLarge_succ_cases (by decide) x, ⟨0, by decide⟩, ⟨2, by decide⟩⟩,
      ⟨fun x _ => toLarge_succ_cases (by decide) x, ⟨1, by decide⟩, ⟨0, by decide⟩⟩,
      ⟨fun x _ => toLarge_succ_cases (by decide) x, ⟨0, by decide⟩, ⟨1, by decide⟩⟩,
      ⟨fun x _ => toLarge_succ_cases (by decide) x, ⟨0, by decide⟩, ⟨1, by decide⟩⟩,
      ⟨fun x _ => toLarge_succ_cases (by decide) x, ⟨0, by decide⟩, ⟨11, by decide⟩⟩⟩
  case exact =>
    simp only [List.forall_mem_cons, List.not_mem_nil, false_imp_iff, implies_true, and_true]
    exact ⟨fun x _ => toLarge_succ_of_dvd (by decide) (by decide) x, fun x _ => toLarge_succ_of_dvd (by decide) (by decide) x,
      fun x _ => toLarge_succ_of_dvd (by decide) (by decide) x, fun x _ => toLarge_succ_of_dvd (by decide) (by decide) x⟩

/-- Settles O14. Without a wrap the result is a rounded quotient that grows by at most one small code per large code; the
wrap of pairs 10 and 11 comes once and stays; and no two small codes share a landing value. -/
theorem toSmallStepsByAtMostOneButAtTheWrap : Obligations.ToSmallStepsByAtMostOneButAtTheWrap := by
  refine ⟨?small, ?identity, ?wrapping, ?strict⟩
  case small =>
    intro p hp h10 h11 y hy
    have unwraps {z : Nat} (hz : z ≤ p.large) : toSmall p z = p.unwrapped z :=
      toSmall_of_neverWraps (rangePairs_neverWraps p hp h10 h11) (rangePairs_large_pos p hp) hz
    exact toSmall_succ_cases hp (unwraps hy.le) (unwraps hy)
  case identity =>
    have identity : ∀ p ∈ [pair4, pair6], p.angle = false ∧ 0 < p.largeSpan ∧ p.smallSpan = p.largeSpan := by decide
    intro p hp y _
    obtain ⟨ha, hl, heq⟩ := identity p hp
    rw [toSmall_of_not_angle ha, toSmall_of_not_angle ha, unwrapped_of_equal_spans hl heq, unwrapped_of_equal_spans hl heq]
  case wrapping =>
    simp only [List.forall_mem_cons, List.not_mem_nil, false_imp_iff, implies_true, and_true]
    exact ⟨pair10_wrapsAfter.steps (by decide), pair11_wrapsAfter.steps (by decide)⟩
  case strict => exact fun p hp x y hxy _ => toLarge_strictMono hp hxy

end Sys2Proof.Machine
end

section
/-! SUPPORT. What a rule of the range rescaler lists (40_range_rescaler.md R110 to R133), from the two functions of its pair:
encoding and result, first points, peak. -/

namespace Sys2Proof.Machine

open Sys2Proof.Claims

section
variable {mk : Ignored → Lane → Instr} {k : ChannelKind} {f : GammaMode → Lane → Nat}

/-- The rule of a format S instruction, from its row of the opcode map and the bound of its result. -/
theorem Computes.scalarRule {g : Nat → Nat} (C : Computes mk k (fun _ x => g x.toNat)) {opc : Opcode} {i maxOut : Nat}
    (hrow : opcodeRows[i]? = some (opc, scalarWord mk)) (hunit : opc.toNat / 4096 ≠ 5)
    (hg : ∀ x, x ≤ kindMax k → g x ≤ maxOut) (hout : maxOut < 2 ^ 16) : ScalarRule opc mk (kindMax k) maxOut g := by
  refine ⟨fun hasR2H w hopc => ?_, fun s ign x hx => ⟨hg _ hx, ?_⟩⟩
  · exact (decodesAsRow_of_mem_opcodeRows _ (List.mem_of_getElem? hrow)).of_present hopc (rowPresent_iff.2 (.inr hunit))
  · rw [C.answers hx, scalarResponse_eq_ofNat ((hg _ hx).trans_lt hout)]

/-- Above its kind an operand is answered with a draw (60_exceptions.md R262). -/
theorem Computes.outOfRange (C : Computes mk k f) : ScalarOutOfRange mk (kindMax k) := by
  intro s ign x hx
  have violation : kindHolds k x = false := decide_eq_false (Nat.not_le_of_lt hx)
  exact ⟨_, by rw [C.exec_eq, answerScalar_violation violation]; rfl⟩

end

section
variable {p : RangePair} {small large : ChannelKind} {up down : Ignored → Lane → Instr} {opc : Opcode} {i : Nat}

theorem RescalesPair.up_rule (R : RescalesPair p small large up down) {f : Nat → Nat} (hf : toLarge p = f)
    (hrow : opcodeRows[i]? = some (opc, scalarWord up)) (hunit : opc.toNat / 4096 ≠ 5) :
    ScalarRule opc up p.small p.large f := by
  rw [R.small_max, ← hf]
  exact R.up_computes.scalarRule hrow hunit
    (fun x hx => toLarge_le R.small_pos R.small_le_large (R.small_max ▸ hx)) R.large_lt

theorem RescalesPair.down_rule (R : RescalesPair p small large up down) {f : Nat → Nat} (hf : toSmall p = f)
    (hrow : opcodeRows[i]? = some (opc, scalarWord down)) (hunit : opc.toNat / 4096 ≠ 5) :
    ScalarRule opc down p.large p.small f := by
  rw [R.large_max, ← hf]
  exact R.down_computes.scalarRule hrow hunit (fun y hy => toSmall_le R.large_pos (R.large_max ▸ hy))
    (R.small_le_large.trans_lt R.large_lt)

end

theorem takes_of_all {f : Nat → Nat} {values : List (Nat × Nat)} (h : (values.all fun q => f q.1 == q.2) = true) :
    Takes f values := by
  simpa [Takes, List.all_eq_true] using h

/-- A numerator `x * a + b` peaks at the largest operand. -/
theorem peak_affine {a b maxIn peak bits : Nat}
    (h : maxIn * a + b = peak ∧ 2 ^ (bits - 1) ≤ peak ∧ peak < 2 ^ bits) : Peak (fun x => x * a + b) maxIn peak bits := by
  obtain ⟨rfl, low, high⟩ := h
  exact ⟨rfl, fun _ hx => Nat.add_le_add_right (Nat.mul_le_mul_right a hx) b, low, high⟩

/-! A result function that does not decrease up to an operand `top`. -/

section
variable {f : Nat → Nat} {top : Nat}

/-- It is first `y` at `x` when it is still lower at the operand before. -/
theorem firstGives_of_monotoneOn (hf : MonotoneOn f (Set.Iic top)) {x y : Nat} (h : x ≤ top ∧ f x = y ∧ f (x - 1) < y) :
    FirstGives f y x := by
  obtain ⟨hx, hy, before⟩ := h
  refine ⟨hy, fun z hz => ?_⟩
  have le_before : f z ≤ f (x - 1) := hf (hz.le.trans hx) ((x.sub_le 1).trans hx) (Nat.le_sub_one_of_lt hz)
  exact (le_before.trans_lt before).ne

theorem eq_zero_of_monotoneOn (hf : MonotoneOn f (Set.Iic top)) {last : Nat} (h : last ≤ top ∧ f last = 0) :
    ∀ x, x ≤ last → f x = 0 := by
  obtain ⟨hlast, zero⟩ := h
  exact fun x hx => Nat.eq_zero_of_le_zero (zero ▸ hf (hx.trans hlast) hlast hx)

theorem zero_only_at_zero_of_monotoneOn (hf : MonotoneOn f (Set.Iic top)) (h : 1 ≤ top ∧ 0 < f 1) :
    ∀ x, x ≤ top → f x = 0 → x = 0 := by
  obtain ⟨htop, pos⟩ := h
  intro x hx zero
  by_contra hne
  have one_le : f 1 ≤ f x := hf htop hx (Nat.one_le_iff_ne_zero.2 hne)
  omega

end

/-! The quotients of the rules. -/

theorem toLarge_pair0 : toLarge pair0 = fun X => (X * 255 + 15) / 31 := by
  simp [funext_iff, toLarge, pair0, rhu]
theorem toSmall_pair0 : toSmall pair0 = fun X => (X * 31 + 127) / 255 := by
  simp [funext_iff, toSmall, pair0, rhu]
theorem toLarge_pair1 : toLarge pair1 = fun X => (X * 65535 + 15) / 31 := by
  simp [funext_iff, toLarge, pair1, rhu]
theorem toSmall_pair1 : toSmall pair1 = fun X => (X * 31 + 32767) / 65535 := by
  simp [funext_iff, toSmall, pair1, rhu]
theorem toLarge_pair2 : toLarge pair2 = fun X => (X * 255 + 31) / 63 := by
  simp [funext_iff, toLarge, pair2, rhu]
theorem toSmall_pair2 : toSmall pair2 = fun X => (X * 63 + 127) / 255 := by
  simp [funext_iff, toSmall, pair2, rhu]
theorem toLarge_pair3 : toLarge pair3 = fun X => (X * 65535 + 31) / 63 := by
  simp [funext_iff, toLarge, pair3, rhu]
theorem toSmall_pair3 : toSmall pair3 = fun X => (X * 63 + 32767) / 65535 := by
  simp [funext_iff, toSmall, pair3, rhu]
theorem toLarge_pair5 : toLarge pair5 = fun X => (X * 65535 + 127) / 255 := by
  simp [funext_iff, toLarge, pair5, rhu]
theorem toSmall_pair5 : toSmall pair5 = fun X => (X * 255 + 32767) / 65535 := by
  simp [funext_iff, toSmall, pair5, rhu]
theorem toLarge_pair7 : toLarge pair7 = fun X => (X * 255 + 50) / 100 := by
  simp [funext_iff, toLarge, pair7, rhu]
theorem toSmall_pair7 : toSmall pair7 = fun X => (X * 100 + 127) / 255 := by
  simp [funext_iff, toSmall, pair7, rhu]
theorem toLarge_pair8 : toLarge pair8 = fun X => (X * 65535 + 50) / 100 := by
  simp [funext_iff, toLarge, pair8, rhu]
theorem toSmall_pair8 : toSmall pair8 = fun X => (X * 100 + 32767) / 65535 := by
  simp [funext_iff, toSmall, pair8, rhu]
theorem toLarge_pair9 : toLarge pair9 = fun X => (X * 360 + 128) / 256 := by
  simp [funext_iff, toLarge, pair9, rhu]
theorem unwrapped_pair9 : pair9.unwrapped = fun X => (X * 256 + 180) / 360 := by
  simp [funext_iff, RangePair.unwrapped, RangePair.smallSpan, RangePair.largeSpan, pair9, rhu]
theorem toSmall_pair9 : toSmall pair9 = fun X => (X * 256 + 180) / 360 % 256 := by
  simp [funext_iff, toSmall, pair9, rhu]
theorem toLarge_pair10 : toLarge pair10 = fun X => (X * 65536 + 180) / 360 := by
  simp [funext_iff, toLarge, pair10, rhu]
theorem unwrapped_pair10 : pair10.unwrapped = fun X => (X * 360 + 32768) / 65536 := by
  simp [funext_iff, RangePair.unwrapped, RangePair.smallSpan, RangePair.largeSpan, pair10, rhu]
theorem toSmall_pair10 : toSmall pair10 = fun X => (X * 360 + 32768) / 65536 % 360 := by
  simp [funext_iff, toSmall, pair10, rhu]
theorem toLarge_pair11 : toLarge pair11 = fun X => (X * 65536 + 128) / 256 := by
  simp [funext_iff, toLarge, pair11, rhu]
theorem unwrapped_pair11 : pair11.unwrapped = fun X => (X * 256 + 32768) / 65536 := by
  simp [funext_iff, RangePair.unwrapped, RangePair.smallSpan, RangePair.largeSpan, pair11, rhu]
theorem toSmall_pair11 : toSmall pair11 = fun X => (X * 256 + 32768) / 65536 % 256 := by
  simp [funext_iff, toSmall, pair11, rhu]

theorem toLarge_of_equal_spans {p : RangePair} (hs : 0 < p.smallSpan) (h : p.smallSpan = p.largeSpan) :
    toLarge p = fun X => X := by
  funext X
  rw [toLarge_eq_rhu, ← h, Nat.mul_comm, rhu_mul_right _ hs]

theorem toSmall_of_equal_spans {p : RangePair} (ha : p.angle = false) (hl : 0 < p.largeSpan)
    (h : p.smallSpan = p.largeSpan) : toSmall p = fun X => X := by
  funext X
  rw [toSmall_of_not_angle ha, unwrapped_of_equal_spans hl h]

theorem toLarge_pair4 : toLarge pair4 = fun X => X := toLarge_of_equal_spans (by decide) rfl
theorem toSmall_pair4 : toSmall pair4 = fun X => X := toSmall_of_equal_spans rfl (by decide) rfl
theorem toLarge_pair6 : toLarge pair6 = fun X => X := toLarge_of_equal_spans (by decide) rfl
theorem toSmall_pair6 : toSmall pair6 = fun X => X := toSmall_of_equal_spans rfl (by decide) rfl

/-! Order, last codes and wrap of the quotients. -/

section
variable {p : RangePair} {f q : Nat → Nat} {last : Nat}

theorem toSmall_eq_mono (hf : toSmall p = f) (hp : p.NeverWraps) : MonotoneOn f (Set.Iic p.large) := hf ▸ toSmall_mono hp

theorem RangePair.WrapsAfter.eq_mono (W : p.WrapsAfter last) (hf : toSmall p = f) : MonotoneOn f (Set.Iic last) :=
  hf ▸ W.toSmall_mono

/-- A code above the landing value of `top` is the landing value of no smaller operand. -/
theorem toLarge_eq_ne (hf : toLarge p = f) {top y : Nat} (h : f top < y) : ∀ x, x ≤ top → f x ≠ y := by
  subst hf
  exact fun _ hx => ((toLarge_mono p hx).trans_lt h).ne

theorem RangePair.NeverWraps.unwrapped_eq_lt (hp : p.NeverWraps) (hq : p.unwrapped = q) (hl : 0 < p.large) :
    ∀ y, y ≤ p.large → q y < p.small + 1 := by
  subst hq
  exact fun _ hy => Nat.lt_succ_of_le (unwrapped_le_of_neverWraps hp hl hy)

/-- Past the wrap point the quotient is `S + 1` and the result 0. -/
theorem RangePair.WrapsAfter.eq_after (W : p.WrapsAfter last) (hq : p.unwrapped = q) (hf : toSmall p = f) :
    ∀ y, last + 1 ≤ y → y ≤ p.large → q y = p.small + 1 ∧ f y = 0 := by
  subst hq hf
  exact fun _ hlast hy => ⟨W.unwrapped_after hlast hy, W.toSmall_after hlast hy⟩

end

end Sys2Proof.Machine
end

section
/-! PROOF. The instructions of the range rescaler (40_range_rescaler.md R110 to R133). -/

namespace Sys2Proof.Machine

open Sys2Proof.Claims

/-- Settles O7. Both directions of pairs 0, 1 and 2; the first points follow from `to_small` being non-decreasing. -/
theorem rescaleFiveAndSixBitChannels : Obligations.RescaleFiveAndSixBitChannels := by
  refine ⟨?u5u8, ?u8u5, ?u5u16, ?u16u5, ?u6u8, ?u8u6⟩
  case u5u8 =>
    exact ⟨rescales_pair0.up_rule toLarge_pair0 (i := 0) rfl (by decide), rescales_pair0.up_computes.outOfRange,
      takes_of_all (by decide), peak_affine (by decide)⟩
  case u8u5 =>
    have mono := toSmall_eq_mono toSmall_pair0 (.of_not_angle rfl)
    exact ⟨rescales_pair0.down_rule toSmall_pair0 (i := 1) rfl (by decide), rescales_pair0.down_computes.outOfRange,
      takes_of_all (by decide),
      eq_zero_of_monotoneOn mono (by decide), firstGives_of_monotoneOn mono (by decide),
      firstGives_of_monotoneOn mono (by decide), peak_affine (by decide)⟩
  case u5u16 =>
    exact ⟨rescales_pair1.up_rule toLarge_pair1 (i := 2) rfl (by decide), rescales_pair1.up_computes.outOfRange,
      takes_of_all (by decide), peak_affine (by decide)⟩
  case u16u5 =>
    have mono := toSmall_eq_mono toSmall_pair1 (.of_not_angle rfl)
    exact ⟨rescales_pair1.down_rule toSmall_pair1 (i := 3) rfl (by decide), takes_of_all (by decide),
      eq_zero_of_monotoneOn mono (by decide), firstGives_of_monotoneOn mono (by decide),
      firstGives_of_monotoneOn mono (by decide), peak_affine (by decide)⟩
  case u6u8 =>
    exact ⟨rescales_pair2.up_rule toLarge_pair2 (i := 4) rfl (by decide), rescales_pair2.up_computes.outOfRange,
      takes_of_all (by decide), peak_affine (by decide)⟩
  case u8u6 =>
    have mono := toSmall_eq_mono toSmall_pair2 (.of_not_angle rfl)
    exact ⟨rescales_pair2.down_rule toSmall_pair2 (i := 5) rfl (by decide), rescales_pair2.down_computes.outOfRange,
      takes_of_all (by decide),
      eq_zero_of_monotoneOn mono (by decide), firstGives_of_monotoneOn mono (by decide),
      firstGives_of_monotoneOn mono (by decide), peak_affine (by decide)⟩

/-- Settles O8. Both directions of pairs 3, 4 and 5, of which pair 4 is the identity. -/
theorem rescaleSixEightAndSixteenBitChannels : Obligations.RescaleSixEightAndSixteenBitChannels := by
  refine ⟨?u6u16, ?u16u6, ?u8u8, ?u8u8i, ?u8u16, ?u16u8⟩
  case u6u16 =>
    exact ⟨rescales_pair3.up_rule toLarge_pair3 (i := 6) rfl (by decide), rescales_pair3.up_computes.outOfRange,
      takes_of_all (by decide), peak_affine (by decide)⟩
  case u16u6 =>
    have mono := toSmall_eq_mono toSmall_pair3 (.of_not_angle rfl)
    exact ⟨rescales_pair3.down_rule toSmall_pair3 (i := 7) rfl (by decide), takes_of_all (by decide),
      eq_zero_of_monotoneOn mono (by decide), firstGives_of_monotoneOn mono (by decide),
      firstGives_of_monotoneOn mono (by decide), peak_affine (by decide)⟩
  case u8u8 =>
    exact ⟨rescales_pair4.up_rule toLarge_pair4 (i := 8) rfl (by decide), rescales_pair4.up_computes.outOfRange,
      takes_of_all (by decide)⟩
  case u8u8i =>
    exact ⟨rescales_pair4.down_rule toSmall_pair4 (i := 9) rfl (by decide), rescales_pair4.down_computes.outOfRange,
      takes_of_all (by decide)⟩
  case u8u16 =>
    exact ⟨rescales_pair5.up_rule toLarge_pair5 (i := 10) rfl (by decide), rescales_pair5.up_computes.outOfRange,
      takes_of_all (by decide), peak_affine (by decide)⟩
  case u16u8 =>
    have mono := toSmall_eq_mono toSmall_pair5 (.of_not_angle rfl)
    exact ⟨rescales_pair5.down_rule toSmall_pair5 (i := 11) rfl (by decide), takes_of_all (by decide),
      eq_zero_of_monotoneOn mono (by decide), firstGives_of_monotoneOn mono (by decide),
      firstGives_of_monotoneOn mono (by decide), peak_affine (by decide)⟩

/-- Settles O9. Both directions of pairs 6, 7 and 8, of which pair 6 is the identity. -/
theorem rescaleIdentityAndPercentChannels : Obligations.RescaleIdentityAndPercentChannels := by
  refine ⟨?u16u16, ?u16u16i, ?pctu8, ?u8pct, ?pctu16, ?u16pct⟩
  case u16u16 =>
    exact ⟨rescales_pair6.up_rule toLarge_pair6 (i := 12) rfl (by decide), takes_of_all (by decide)⟩
  case u16u16i =>
    exact ⟨rescales_pair6.down_rule toSmall_pair6 (i := 13) rfl (by decide), takes_of_all (by decide)⟩
  case pctu8 =>
    exact ⟨rescales_pair7.up_rule toLarge_pair7 (i := 14) rfl (by decide), rescales_pair7.up_computes.outOfRange,
      takes_of_all (by decide), peak_affine (by decide)⟩
  case u8pct =>
    have mono := toSmall_eq_mono toSmall_pair7 (.of_not_angle rfl)
    exact ⟨rescales_pair7.down_rule toSmall_pair7 (i := 15) rfl (by decide), rescales_pair7.down_computes.outOfRange,
      takes_of_all (by decide),
      eq_zero_of_monotoneOn mono (by decide), firstGives_of_monotoneOn mono (by decide),
      firstGives_of_monotoneOn mono (by decide), peak_affine (by decide)⟩
  case pctu16 =>
    exact ⟨rescales_pair8.up_rule toLarge_pair8 (i := 16) rfl (by decide), rescales_pair8.up_computes.outOfRange,
      takes_of_all (by decide), peak_affine (by decide)⟩
  case u16pct =>
    have mono := toSmall_eq_mono toSmall_pair8 (.of_not_angle rfl)
    exact ⟨rescales_pair8.down_rule toSmall_pair8 (i := 17) rfl (by decide), takes_of_all (by decide),
      eq_zero_of_monotoneOn mono (by decide), firstGives_of_monotoneOn mono (by decide),
      firstGives_of_monotoneOn mono (by decide), peak_affine (by decide)⟩

/-- Settles O10. Pair 9 never wraps; `to_small` of pairs 10 and 11 is non-decreasing up to its wrap, which comes after the
first points, and 0 from there on. -/
theorem rescaleHueAngles : Obligations.RescaleHueAngles := by
  refine ⟨?a8deg, ?dega8, ?dega16, ?a16deg, ?a8a16, ?a16a8⟩
  case a8deg =>
    exact ⟨rescales_pair9.up_rule toLarge_pair9 (i := 18) rfl (by decide), rescales_pair9.up_computes.outOfRange,
      takes_of_all (by decide), peak_affine (by decide)⟩
  case dega8 =>
    have unwraps : pair9.NeverWraps := rangePairs_neverWraps pair9 (by decide) (by decide) (by decide)
    have mono := toSmall_eq_mono toSmall_pair9 unwraps
    exact ⟨rescales_pair9.down_rule toSmall_pair9 (i := 19) rfl (by decide), rescales_pair9.down_computes.outOfRange,
      takes_of_all (by decide), zero_only_at_zero_of_monotoneOn mono (by decide),
      firstGives_of_monotoneOn mono (by decide), firstGives_of_monotoneOn mono (by decide),
      unwraps.unwrapped_eq_lt unwrapped_pair9 (by decide), peak_affine (by decide)⟩
  case dega16 =>
    exact ⟨rescales_pair10.up_rule toLarge_pair10 (i := 20) rfl (by decide), rescales_pair10.up_computes.outOfRange,
      takes_of_all (by decide), toLarge_eq_ne toLarge_pair10 (by decide), peak_affine (by decide)⟩
  case a16deg =>
    have mono := pair10_wrapsAfter.eq_mono toSmall_pair10
    exact ⟨rescales_pair10.down_rule toSmall_pair10 (i := 21) rfl (by decide), takes_of_all (by decide),
      eq_zero_of_monotoneOn mono (by decide), firstGives_of_monotoneOn mono (by decide),
      firstGives_of_monotoneOn mono (by decide), pair10_wrapsAfter.eq_after unwrapped_pair10 toSmall_pair10,
      peak_affine (by decide)⟩
  case a8a16 =>
    exact ⟨rescales_pair11.up_rule toLarge_pair11 (i := 22) rfl (by decide), rescales_pair11.up_computes.outOfRange,
      takes_of_all (by decide), toLarge_eq_ne toLarge_pair11 (by decide), peak_affine (by decide)⟩
  case a16a8 =>
    have mono := pair11_wrapsAfter.eq_mono toSmall_pair11
    exact ⟨rescales_pair11.down_rule toSmall_pair11 (i := 23) rfl (by decide), takes_of_all (by decide),
      eq_zero_of_monotoneOn mono (by decide), firstGives_of_monotoneOn mono (by decide),
      firstGives_of_monotoneOn mono (by decide), pair11_wrapsAfter.eq_after unwrapped_pair11 toSmall_pair11,
      peak_affine (by decide)⟩

end Sys2Proof.Machine
end

section
/-! SUPPORT. Gamma decode is the real formula of 41_gamma_decode.md R140: the power branch through the fifth power of its
inequality, the linear branch as a rounded quotient. Order and scaling of the integer form. -/

namespace Sys2Proof.Machine

open Sys2Proof.Claims

/-- A search whose test compares with a real number below `out + 1` finds the floor of that number. -/
theorem greatestFrom_eq_floor {p : Nat → Bool} {out : Nat} {x : ℝ} (hout : out < 2 ^ 16) (hx : 0 ≤ x)
    (hlt : x < out + 1) (hp : ∀ y, p y = true ↔ y ≤ out ∧ (y : ℝ) ≤ x) : greatestFrom p 16 0 = ⌊x⌋₊ := by
  have down : ∀ a b, a ≤ b → p b = true → p a = true := by
    intro a b hab hb
    obtain ⟨hle, hreal⟩ := (hp b).1 hb
    exact (hp a).2 ⟨hab.trans hle, (Nat.cast_le.2 hab).trans hreal⟩
  have floor_le : ⌊x⌋₊ ≤ out := Nat.le_of_lt_succ ((Nat.floor_lt hx).2 (by exact_mod_cast hlt))
  have passes : p ⌊x⌋₊ = true := (hp _).2 ⟨floor_le, Nat.floor_le hx⟩
  have found : p (greatestFrom p 16 0) = true := greatestFrom_holds p 16 0 (down 0 _ (Nat.zero_le _) passes)
  exact le_antisymm (Nat.le_floor ((hp _).1 found).2) (greatestFrom_largest p down 16 0 _ passes (by omega))

/-- The base of the power branch at the code `n` of `m` is a quotient of naturals (41_gamma_decode.md R147). -/
theorem decodeBase_eq {m : Nat} (hm : 0 < m) (n : Nat) :
    ((n : ℝ) / m + 0.055) / 1.055 = (200 * n + 11 * m : ℕ) / (211 * m : ℕ) := by
  have : (m : ℝ) ≠ 0 := by positivity
  push_cast
  field_simp
  ring

theorem rpow_pow_five {b : ℝ} (hb : 0 ≤ b) : (b ^ (2.4 : ℝ)) ^ 5 = b ^ 12 := by
  rw [← Real.rpow_mul_natCast hb, ← Real.rpow_natCast]
  norm_num

/-- Both sides of `2 y - 1 ≤ 2 out b ^ 2.4` to the fifth power, and the denominator of `b` cleared: the inequality of
41_gamma_decode.md R147. -/
theorem two_mul_sub_one_le_rpow_iff {a c out y : Nat} (hc : 0 < c) (hy : 0 < y) :
    (y : ℝ) ≤ out * ((a : ℝ) / c) ^ (2.4 : ℝ) + 1 / 2 ↔ (2 * y - 1) ^ 5 * c ^ 12 ≤ a ^ 12 * (2 * out) ^ 5 := by
  have hpow : (0 : ℝ) < (c : ℝ) ^ 12 := by positivity
  have odd : ((2 * y - 1 : ℕ) : ℝ) = 2 * y - 1 := by
    rw [Nat.cast_sub (by omega)]
    push_cast
    rfl
  calc (y : ℝ) ≤ out * ((a : ℝ) / c) ^ (2.4 : ℝ) + 1 / 2
      ↔ ((2 * y - 1 : ℕ) : ℝ) ≤ (2 * out : ℕ) * ((a : ℝ) / c) ^ (2.4 : ℝ) := by
        rw [odd]
        push_cast
        constructor <;> intro h <;> linarith
    _ ↔ ((2 * y - 1 : ℕ) : ℝ) ^ 5 ≤ ((2 * out : ℕ) * ((a : ℝ) / c) ^ (2.4 : ℝ)) ^ 5 :=
        (pow_le_pow_iff_left₀ (by positivity) (by positivity) (by decide)).symm
    _ ↔ ((2 * y - 1 : ℕ) : ℝ) ^ 5 * (c : ℝ) ^ 12 ≤ (a : ℝ) ^ 12 * ((2 * out : ℕ) : ℝ) ^ 5 := by
        rw [mul_pow, rpow_pow_five (by positivity), div_pow, ← mul_div_assoc, le_div_iff₀ hpow,
          mul_comm (((2 * out : ℕ) : ℝ) ^ 5)]
    _ ↔ (2 * y - 1) ^ 5 * c ^ 12 ≤ a ^ 12 * (2 * out) ^ 5 := by norm_cast

theorem decodeReaches_iff_le_rpow {m : Nat} (hm : 0 < m) (n out y : Nat) : decodeReaches n m out y = true ↔
    y ≤ out ∧ (y : ℝ) ≤ out * (((n : ℝ) / m + 0.055) / 1.055) ^ (2.4 : ℝ) + 1 / 2 := by
  rw [decodeReaches_iff, decodeBase_eq hm]
  rcases Nat.eq_zero_or_pos y with rfl | hy
  · exact iff_of_true (by simp) ⟨Nat.zero_le out, by rw [Nat.cast_zero]; positivity⟩
  · rw [two_mul_sub_one_le_rpow_iff (by omega) hy]

/-- The threshold of 41_gamma_decode.md R140 in integers. -/
theorem code_le_threshold_iff {m : Nat} (hm : 0 < m) (n : Nat) :
    (n : ℝ) / m ≤ 0.04045 ↔ 100000 * n ≤ 4045 * m := by
  rw [div_le_iff₀ (by positivity), ← @Nat.cast_le ℝ]
  push_cast
  constructor <;> intro h <;> linarith

theorem srgbDecode_nonneg {v : ℝ} (hv : 0 ≤ v) : 0 ≤ srgbDecode v := by
  unfold srgbDecode
  split <;> positivity

/-- The integer form is the real formula rounded half up (41_gamma_decode.md R141, R147). -/
theorem gammaDec_eq_floor {n m out : Nat} (hm : 0 < m) (hn : n ≤ m) (hout : out < 2 ^ 16) :
    gammaDec n m out = ⌊(out : ℝ) * srgbDecode ((n : ℝ) / m) + 1 / 2⌋₊ := by
  have hm' : (0 : ℝ) < m := by positivity
  unfold gammaDec srgbDecode
  simp only [code_le_threshold_iff hm]
  split
  case isTrue =>
    rw [← Nat.floor_div_eq_div (K := ℝ)]
    congr 1
    push_cast
    field_simp
    ring
  case isFalse =>
    have base_le : ((n : ℝ) / m + 0.055) / 1.055 ≤ 1 := by
      have : (n : ℝ) / m ≤ 1 := (div_le_one hm').2 (Nat.cast_le.2 hn)
      rw [div_le_one (by norm_num)]
      linarith
    have power_le : (((n : ℝ) / m + 0.055) / 1.055) ^ (2.4 : ℝ) ≤ 1 :=
      Real.rpow_le_one (by positivity) base_le (by norm_num)
    have scaled_le := mul_le_mul_of_nonneg_left power_le (Nat.cast_nonneg (α := ℝ) out)
    exact greatestFrom_eq_floor hout (by positivity) (by linarith) (decodeReaches_iff_le_rpow hm n out)

/-- Decode is non-decreasing: both branches are, and the power branch starts, after the last code `last` of the linear
branch, no lower than the linear branch ends. -/
theorem gammaDec_mono_of_threshold {m out last : Nat} (hlast : ∀ n, 100000 * n ≤ 4045 * m ↔ n ≤ last)
    (hlt : (200 * out * last + 1292 * m) / (2584 * m) < 2 ^ 16)
    (hstart : decodeReaches (last + 1) m out ((200 * out * last + 1292 * m) / (2584 * m)) = true) :
    Monotone (gammaDec · m out) := by
  refine monotone_of_linear_then_search (lin := fun n => (200 * out * n + 1292 * m) / (2584 * m)) (last := last)
    ?_ (decodeReaches_searchFamily hstart hlt) ?_ ?_
  · intro a b h
    dsimp only
    gcongr
  · exact fun n hn => if_pos ((hlast n).2 hn)
  · exact fun n hn => if_neg (by rw [hlast]; omega)

theorem threshold_255 (n : Nat) : 100000 * n ≤ 4045 * 255 ↔ n ≤ 10 := by omega

theorem threshold_65535 (n : Nat) : 100000 * n ≤ 4045 * 65535 ↔ n ≤ 2650 := by omega

/-- Decode is non-decreasing for both code ranges and both precisions (41_gamma_decode.md R141). -/
theorem gammaDec_mono_of_ranges {m out : Nat} (hm : m = 255 ∨ m = 65535) (hout : out = 255 ∨ out = 65535) :
    Monotone (gammaDec · m out) := by
  rcases hm with rfl | rfl <;> rcases hout with rfl | rfl
  · exact gammaDec_mono_of_threshold threshold_255 (by decide) (by decide)
  · exact gammaDec_mono_of_threshold threshold_255 (by decide) (by decide)
  · exact gammaDec_mono_of_threshold threshold_65535 (by decide) (by decide)
  · exact gammaDec_mono_of_threshold threshold_65535 (by decide) (by decide)

/-- Decode depends on the quotient of code and code range only. -/
theorem gammaDec_mul_left {k : Nat} (hk : 0 < k) (n m out : Nat) : gammaDec (k * n) (k * m) out = gammaDec n m out := by
  have threshold : 100000 * (k * n) ≤ 4045 * (k * m) ↔ 100000 * n ≤ 4045 * m := by
    rw [Nat.mul_left_comm 100000, Nat.mul_left_comm 4045, Nat.mul_le_mul_left_iff hk]
  have linear : (200 * out * (k * n) + 1292 * (k * m)) / (2584 * (k * m)) =
      (200 * out * n + 1292 * m) / (2584 * m) := by
    rw [← Nat.mul_div_mul_left (200 * out * n + 1292 * m) (2584 * m) hk]
    congr 1 <;> ring
  have reaches : decodeReaches (k * n) (k * m) out = decodeReaches n m out := by
    funext y
    have base : 200 * (k * n) + 11 * (k * m) = k * (200 * n + 11 * m) := by ring
    rw [Bool.eq_iff_iff, decodeReaches_iff, decodeReaches_iff, base, Nat.mul_left_comm 211, mul_pow k, mul_pow k, mul_assoc,
      Nat.mul_left_comm _ (k ^ 12), Nat.mul_le_mul_left_iff (Nat.pow_pos hk)]
  unfold gammaDec
  simp only [threshold, linear, reaches]

/-! The decode tables (41_gamma_decode.md R142, R143). -/

theorem romG8L8_eq_gammaDec : ∀ i, i < 256 → romRead romG8L8 i = gammaDec i 255 255 := by decide +kernel

theorem romG8L16_eq_gammaDec : ∀ i, i < 256 → romRead romG8L16 i = gammaDec i 255 65535 := by decide +kernel

theorem gammaEnc_romG8L16 : ∀ i, i < 256 → gammaEnc (romRead romG8L16 i) 65535 255 = i := by decide +kernel

/-- The table is non-decreasing and no two of its entries are equal, for each encodes back to its index. -/
theorem romG8L16_lt_succ : ∀ i, i < 255 → romRead romG8L16 i < romRead romG8L16 (i + 1) := by
  intro i hi
  have le : romRead romG8L16 i ≤ romRead romG8L16 (i + 1) := romG8L16_mono hi.le (Nat.succ_le_of_lt hi) i.le_succ
  refine le.lt_of_ne fun equal => ?_
  have back := gammaEnc_romG8L16 (i + 1) (Nat.succ_lt_succ hi)
  rw [← equal, gammaEnc_romG8L16 i (hi.trans (by decide))] at back
  omega

/-- The rule of a table instruction: its entries have `n` bits, and an index above 255 violates the contract. -/
theorem Computes.tableRule {mk : Ignored → Lane → Instr} {n : Nat} {rom : List (BitVec n)}
    (C : Computes mk .u8 (fun _ x => romRead rom x.toNat)) (hn : n ≤ 16) {opc : Opcode} {i : Nat}
    (hrow : opcodeRows[i]? = some (opc, scalarWord mk)) (hunit : opc.toNat / 4096 ≠ 5) :
    ScalarRule opc mk 255 (2 ^ n - 1) (romRead rom) ∧ ScalarOutOfRange mk 255 := by
  have entry_le (x : Nat) : romRead rom x ≤ 2 ^ n - 1 := Nat.le_sub_one_of_lt (romRead_lt rom x)
  have max_lt : 2 ^ n - 1 < 2 ^ 16 := (Nat.sub_one_lt (by positivity)).trans_le (Nat.pow_le_pow_right two_pos hn)
  exact ⟨C.scalarRule hrow hunit (fun x _ => entry_le x) max_lt, C.outOfRange⟩

end Sys2Proof.Machine
end

section
/-! PROOF. Gamma decode (41_gamma_decode.md R141 to R145) and the table instructions (42_gamma_encode.md R164). -/

namespace Sys2Proof.Machine

open Sys2Proof.Claims

/-- Settles O21. The integer form is the floor of the real formula; order from the order of its branches. -/
theorem gammaDecodeIsTheRoundedRealFormula : Obligations.GammaDecodeIsTheRoundedRealFormula := by
  refine ⟨fun m out hm hout => ?formula, fun n m hm => code_le_threshold_iff hm n, threshold_255, threshold_65535⟩
  case formula =>
    have hpos : 0 < m := by omega
    have hlt : out < 2 ^ 16 := by omega
    refine ⟨fun n hn => ?_, gammaDec_zero hpos out, gammaDec_max hpos hlt,
      fun a b hab _ => gammaDec_mono_of_ranges hm hout hab⟩
    have nonneg := srgbDecode_nonneg (v := (n : ℝ) / m) (by positivity)
    rw [gammaDec_eq_floor hpos hn hlt, Int.natCast_floor_eq_floor (by positivity)]

/-- Settles O19. The runs of `ROM_G8L8` follow from their ends, for the table is non-decreasing. -/
theorem decodeTablesAreTheFormula : Obligations.DecodeTablesAreTheFormula := by
  refine ⟨romG8L8_eq_gammaDec, by decide +kernel, eq_zero_of_monotoneOn romG8L8_mono (by decide), ?ones,
    romG8L16_eq_gammaDec, by decide +kernel, romG8L16_lt_succ, gammaEnc_romG8L16⟩
  case ones =>
    intro i hlow hhigh
    have hi : i ∈ Set.Iic 255 := hhigh.trans (by decide)
    exact le_antisymm (romG8L8_mono hi (by decide : 17 ≤ 255) hhigh) (romG8L8_mono (by decide : 7 ≤ 255) hi hlow)

/-- Settles O17. The three rules are those of format S with a table as result function; the route through `GD.G8.L8` loses
entry 1, and the route through the 16-bit form decodes `257 i` of 65535, which is `i` of 255. -/
theorem gammaTableInstructionsReadTheirTables : Obligations.GammaTableInstructionsReadTheirTables := by
  refine ⟨?g8l8, ?g8l16, ?l8g8, ⟨1, by decide⟩, ?sixteen⟩
  case g8l8 =>
    obtain ⟨rule, outOfRange⟩ := computes_gdG8L8.tableRule (i := 24) (by decide) rfl (by decide)
    exact ⟨rule, outOfRange, takes_of_all (by decide)⟩
  case g8l16 =>
    obtain ⟨rule, outOfRange⟩ := computes_gdG8L16.tableRule (i := 25) (by decide) rfl (by decide)
    exact ⟨rule, outOfRange, takes_of_all (by decide)⟩
  case l8g8 =>
    obtain ⟨rule, outOfRange⟩ := computes_geL8G8.tableRule (i := 27) (by decide) rfl (by decide)
    exact ⟨rule, outOfRange, takes_of_all (by decide)⟩
  case sixteen =>
    intro i hi
    have rescaled : toLarge pair5 i = 257 * i := by
      rw [toLarge_pair5]
      dsimp only
      omega
    rw [rescaled, romG8L16_eq_gammaDec i (Nat.lt_succ_of_le hi)]
    exact gammaDec_mul_left (by decide) i 255 65535

end Sys2Proof.Machine
end

section
/-! SUPPORT. Gamma encode is the real formula of 42_gamma_encode.md R160: the power branch through the twelfth power of its
inequality, the linear branch as a rounded quotient. Scaling of the integer form, the encode table, and the table entries
of the configured functions. -/

namespace Sys2Proof.Machine

open Sys2Proof.Claims

/-- A comparison with the root of R160 is one of natural powers, for `1 / 2.4` is `5 / 12`. -/
theorem le_rpow_iff_pow_twelve_le {c v : ℝ} (hc : 0 ≤ c) (hv : 0 ≤ v) :
    c ≤ v ^ ((1 : ℝ) / 2.4) ↔ c ^ 12 ≤ v ^ 5 := by
  have root_pow : (v ^ ((1 : ℝ) / 2.4)) ^ 12 = v ^ 5 := by
    rw [← Real.rpow_mul_natCast hv, ← Real.rpow_natCast]
    norm_num
  rw [← root_pow, pow_le_pow_iff_left₀ hc (by positivity) (by decide)]

/-- Both sides of `200 k + 11 out - 100 ≤ 211 out v ^ (1 / 2.4)` to the twelfth power, and the denominators cleared: the
inequality of 42_gamma_encode.md R163. -/
theorem le_encodePower_iff {n m out k : Nat} (hm : 0 < m) (hout : 10 ≤ out) :
    (k : ℝ) ≤ out * (1.055 * ((n : ℝ) / m) ^ ((1 : ℝ) / 2.4) - 0.055) + 1 / 2 ↔
      (200 * k + 11 * out - 100) ^ 12 * m ^ 5 ≤ n ^ 5 * (211 * out) ^ 12 := by
  have denominator_pos : (0 : ℝ) < (211 * out : ℕ) := by exact_mod_cast (by omega : 0 < 211 * out)
  have numerator : ((200 * k + 11 * out - 100 : ℕ) : ℝ) = 200 * k + 11 * out - 100 := by
    rw [Nat.cast_sub (by omega)]
    push_cast
    rfl
  calc (k : ℝ) ≤ out * (1.055 * ((n : ℝ) / m) ^ ((1 : ℝ) / 2.4) - 0.055) + 1 / 2
      ↔ ((200 * k + 11 * out - 100 : ℕ) : ℝ) ≤ ((n : ℝ) / m) ^ ((1 : ℝ) / 2.4) * (211 * out : ℕ) := by
        rw [numerator]
        push_cast
        constructor <;> intro h <;> linarith
    _ ↔ ((200 * k + 11 * out - 100 : ℕ) : ℝ) / (211 * out : ℕ) ≤ ((n : ℝ) / m) ^ ((1 : ℝ) / 2.4) :=
        (div_le_iff₀ denominator_pos).symm
    _ ↔ (((200 * k + 11 * out - 100 : ℕ) : ℝ) / (211 * out : ℕ)) ^ 12 ≤ ((n : ℝ) / m) ^ 5 :=
        le_rpow_iff_pow_twelve_le (by positivity) (by positivity)
    _ ↔ ((200 * k + 11 * out - 100 : ℕ) : ℝ) ^ 12 * (m : ℝ) ^ 5 ≤ (n : ℝ) ^ 5 * ((211 * out : ℕ) : ℝ) ^ 12 := by
        rw [div_pow, div_pow, div_le_div_iff₀ (by positivity) (by positivity)]
    _ ↔ (200 * k + 11 * out - 100) ^ 12 * m ^ 5 ≤ n ^ 5 * (211 * out) ^ 12 := by norm_cast

/-- The threshold of 42_gamma_encode.md R160 in integers. -/
theorem code_le_encodeThreshold_iff {m : Nat} (hm : 0 < m) (n : Nat) :
    (n : ℝ) / m ≤ 0.0031308 ↔ 10000000 * n ≤ 31308 * m := by
  rw [div_le_iff₀ (by positivity), ← @Nat.cast_le ℝ]
  push_cast
  constructor <;> intro h <;> linarith

/-- Above the threshold the power branch is past its zero. -/
theorem encodePower_nonneg {v : ℝ} (hv : 0.0031308 ≤ v) : 0 ≤ 1.055 * v ^ ((1 : ℝ) / 2.4) - 0.055 := by
  have zero_below : (0.055 / 1.055 : ℝ) ≤ v ^ ((1 : ℝ) / 2.4) :=
    (le_rpow_iff_pow_twelve_le (by norm_num) (by linarith)).2 <|
      calc (0.055 / 1.055 : ℝ) ^ 12 ≤ 0.0031308 ^ 5 := by norm_num
        _ ≤ v ^ 5 := by gcongr
  linarith

theorem srgbEncode_nonneg {v : ℝ} (hv : 0 ≤ v) : 0 ≤ srgbEncode v := by
  unfold srgbEncode
  split
  case isTrue => positivity
  case isFalse above => exact encodePower_nonneg (le_of_not_ge above)

/-- The integer form is the real formula rounded half up (42_gamma_encode.md R161, R163). -/
theorem gammaEnc_eq_floor {n m out : Nat} (hm : 0 < m) (hn : n ≤ m) (hlow : 10 ≤ out) (hout : out < 2 ^ 16) :
    gammaEnc n m out = ⌊(out : ℝ) * srgbEncode ((n : ℝ) / m) + 1 / 2⌋₊ := by
  unfold gammaEnc srgbEncode
  simp only [← code_le_encodeThreshold_iff hm]
  split
  case isTrue =>
    have hm' : (0 : ℝ) < m := by positivity
    rw [← Nat.floor_div_eq_div (K := ℝ)]
    congr 1
    push_cast
    field_simp
    ring
  case isFalse above =>
    have nonneg := mul_nonneg (Nat.cast_nonneg (α := ℝ) out) (encodePower_nonneg (le_of_not_ge above))
    have root_le : ((n : ℝ) / m) ^ ((1 : ℝ) / 2.4) ≤ 1 :=
      Real.rpow_le_one (by positivity) (div_le_one_of_le₀ (Nat.cast_le.2 hn) (by positivity)) (by norm_num)
    have scaled_le := mul_le_mul_of_nonneg_left root_le (Nat.cast_nonneg (α := ℝ) out)
    refine greatestFrom_eq_floor hout (by linarith) (by linarith) fun k => ?_
    rw [encodeReaches_iff, le_encodePower_iff hm hlow]

/-- Encode depends on the quotient of code and code range only. -/
theorem gammaEnc_mul_left {k : Nat} (hk : 0 < k) (n m out : Nat) : gammaEnc (k * n) (k * m) out = gammaEnc n m out := by
  have threshold : 10000000 * (k * n) ≤ 31308 * (k * m) ↔ 10000000 * n ≤ 31308 * m := by
    rw [Nat.mul_left_comm 10000000, Nat.mul_left_comm 31308, Nat.mul_le_mul_left_iff hk]
  have linear : (2584 * out * (k * n) + 100 * (k * m)) / (200 * (k * m)) = (2584 * out * n + 100 * m) / (200 * m) := by
    rw [← Nat.mul_div_mul_left (2584 * out * n + 100 * m) (200 * m) hk]
    congr 1 <;> ring
  have reaches : encodeReaches (k * n) (k * m) out = encodeReaches n m out := by
    funext y
    rw [Bool.eq_iff_iff, encodeReaches_iff, encodeReaches_iff, mul_pow k, mul_pow k, mul_assoc, Nat.mul_left_comm _ (k ^ 5),
      Nat.mul_le_mul_left_iff (Nat.pow_pos hk)]
  unfold gammaEnc
  simp only [threshold, linear, reaches]

/-- `ROM_L8G8` is the encode formula (42_gamma_encode.md R162). -/
theorem romL8G8_eq_gammaEnc : ∀ i, i < 256 → romRead romL8G8 i = gammaEnc i 255 255 := by decide +kernel

/-! The exact 16-bit functions at the multiples of 257, where 65535 is 255 times 257 (42_gamma_encode.md R168). -/

theorem gammaEnc_mul_257 (i : Nat) (hi : i < 256) : gammaEnc (257 * i) 65535 255 = romRead romL8G8 i := by
  rw [romL8G8_eq_gammaEnc i hi]
  exact gammaEnc_mul_left (by decide) i 255 255

theorem gammaDec_mul_257 (i : Nat) (hi : i < 256) : gammaDec (257 * i) 65535 65535 = romRead romG8L16 i := by
  rw [romG8L16_eq_gammaDec i hi]
  exact gammaDec_mul_left (by decide) i 255 65535

/-- A configured function has the table's entries whichever way its guard falls. -/
theorem configured_mul_257 {k : Nat} (f : Lane → BitVec k) (top : Nat) {table fallback : Nat → Nat}
    (h : ∀ i < 256, fallback (257 * i) = table i) {i : Nat} (hi : i < 256) :
    (if gammaLawful (onLane f) top table then (f (BitVec.ofNat 16 (257 * i))).toNat
      else fallback (BitVec.ofNat 16 (257 * i)).toNat) = table i := by
  split
  case isTrue lawful =>
    obtain ⟨-, -, -, entries⟩ := gammaLawful_iff.1 lawful
    exact entries i hi
  case isFalse => rw [lane_toNat_ofNat (by omega), h i hi]

theorem cfgDec16_mul_257 {i : Nat} (hi : i < 256) : cfgDec16 (BitVec.ofNat 16 (257 * i)) = romRead romG8L16 i :=
  configured_mul_257 Config.rawDec16 65535 (fallback := (gammaDec · 65535 65535)) gammaDec_mul_257 hi

theorem cfgEnc16to8_mul_257 {i : Nat} (hi : i < 256) : cfgEnc16to8 (BitVec.ofNat 16 (257 * i)) = romRead romL8G8 i :=
  configured_mul_257 Config.rawEnc16to8 255 (fallback := (gammaEnc · 65535 255)) gammaEnc_mul_257 hi

/-! Responses. -/

section
variable {mk : Ignored → Lane → Instr} {f : GammaMode → Lane → Nat}

/-- A format S instruction over all 16-bit operands whose result in each mode climbs to one lane at most. -/
theorem Computes.answers_of_monotoneOnto (C : Computes mk .u16 f) {top : Nat} (htop : top < 2 ^ 16)
    (hf : ∀ m, MonotoneOnto (f m) top) (s : State) (ign : Ignored) (x : Lane) :
    exec (mk ign x) s = .next (answered s (BitVec.ofNat 48 (f s.gammaMode x))) := by
  rw [C.answers (Nat.le_of_lt_succ x.isLt), scalarResponse_eq_ofNat (monotoneOnto_lt (hf s.gammaMode) htop x)]

/-- A table instruction answers its entry, from every state. -/
theorem Computes.answers_romRead {n : Nat} {rom : List (BitVec n)} (C : Computes mk .u8 (fun _ x => romRead rom x.toNat))
    (hn : n ≤ 16) {x : Lane} (hx : x.toNat ≤ 255) (s : State) (ign : Ignored) :
    exec (mk ign x) s = .next (answered s (BitVec.ofNat 48 (romRead rom x.toNat))) := by
  have entry_lt : romRead rom x.toNat < 2 ^ 16 := (romRead_lt rom _).trans_le (Nat.pow_le_pow_right two_pos hn)
  rw [C.answers hx, scalarResponse_eq_ofNat entry_lt]

end

end Sys2Proof.Machine
end

section
/-! PROOF. Gamma encode (42_gamma_encode.md R161) and the configured gamma functions (42_gamma_encode.md R168). -/

namespace Sys2Proof.Machine

open Sys2Proof.Claims

/-- Settles O22. The integer form is the floor of the real formula, which is non-negative. -/
theorem gammaEncodeIsTheRoundedRealFormula : Obligations.GammaEncodeIsTheRoundedRealFormula := by
  refine ⟨fun m out hm hout => ?formula, fun n m hm => code_le_encodeThreshold_iff hm n, fun n => ?threshold_255,
    fun n => ?threshold_65535⟩
  case formula =>
    have hpos : 0 < m := by omega
    have hlt : out < 2 ^ 16 := by omega
    refine ⟨fun n hn => ?_, gammaEnc_zero hpos out, gammaEnc_max hpos hlt⟩
    have nonneg := srgbEncode_nonneg (v := (n : ℝ) / m) (by positivity)
    rw [gammaEnc_eq_floor hpos hn (by omega) hlt, Int.natCast_floor_eq_floor (by positivity)]
  case threshold_255 => omega
  case threshold_65535 => omega

/-- Settles O23. The candidates are free, so each property of a configured function comes from its guard or from the exact
function, which has them all: its table entries because `257 i` of 65535 is `i` of 255. -/
theorem configuredGammaHasTheNamedProperties : Obligations.ConfiguredGammaHasTheNamedProperties := by
  refine ⟨?responses, ?configured, ?exact, ?tables⟩
  case responses =>
    intro s ign x configured
    rw [computes_gdG16L16.answers_of_monotoneOnto (by decide) gammaDecode16_monotoneOnto,
      computes_geL16G16.answers_of_monotoneOnto (by decide) gammaEncode16_monotoneOnto,
      computes_geL16G8.answers_of_monotoneOnto (by decide) gammaEncode16to8_monotoneOnto, configured]
    exact ⟨rfl, rfl, rfl⟩
  case configured =>
    exact ⟨gammaDecode16_monotoneOnto .configured, gammaEncode16_monotoneOnto .configured,
      gammaEncode16to8_monotoneOnto .configured, fun i hi => ⟨cfgEnc16to8_mul_257 hi, cfgDec16_mul_257 hi⟩⟩
  case exact =>
    exact ⟨gammaDec_monotoneOnto, gammaEnc_monotoneOnto, gammaEnc8_monotoneOnto,
      fun i hi => ⟨gammaEnc_mul_257 i hi, gammaDec_mul_257 i hi⟩⟩
  case tables =>
    intro s ign x m hx
    exact ⟨computes_gdG8L8.answers_romRead (by decide) hx _ ign, computes_gdG8L16.answers_romRead (by decide) hx _ ign,
      computes_geL8G8.answers_romRead (by decide) hx _ ign⟩

end Sys2Proof.Machine
end

section
/-! SUPPORT. The rule of a format T instruction, from its answers, its row of the opcode map and the bound of its channels;
and the hue-sector function of 43_hsv_to_rgb.md R186: its cases, its bound, its grays, and its transcription. -/

namespace Sys2Proof.Machine

open Sys2Proof.Claims

/-! Format T. -/

/-- The channels in the order of 30_encoding.md R68. -/
def Tuple.channels (t : Tuple) : Nat × Nat × Nat := (t.c2, t.c1, t.c0)

theorem Tuple.channels_le_of_largest_le {t : Tuple} {m : Nat} (h : t.largest ≤ m) : t.c2 ≤ m ∧ t.c1 ≤ m ∧ t.c0 ≤ m := by
  simpa only [Tuple.largest, max_le_iff] using h

/-- The response of channels of one lane each is their sum at the weights of 30_encoding.md R61. -/
theorem tupleResponse_eq_ofNat {t : Tuple} (h : t.largest < 2 ^ 16) :
    tupleResponse t = BitVec.ofNat 48 (t.c2 * 2 ^ 32 + t.c1 * 2 ^ 16 + t.c0) := by
  obtain ⟨h2, h1, h0⟩ := Tuple.channels_le_of_largest_le (Nat.le_sub_one_of_lt h)
  have sum_lt : t.c2 * 2 ^ 32 + t.c1 * 2 ^ 16 + t.c0 < 2 ^ 48 := by omega
  apply BitVec.eq_of_toNat_eq
  rw [tupleResponse, BitVec.toNat_ofNat, Nat.mod_eq_of_lt sum_lt, BitVec.toNat_append, BitVec.toNat_append,
    lane_toNat_ofNat (by omega), lane_toNat_ofNat (by omega), lane_toNat_ofNat (by omega),
    ← Nat.shiftLeft_add_eq_or_of_lt (by omega), ← Nat.shiftLeft_add_eq_or_of_lt (by omega)]
  simp only [Nat.shiftLeft_eq]
  omega

/-- The contract and the meaning of a format T instruction: on `valid` operands its result is `g`, on others a draw. -/
structure ComputesTuple (mk : Lane → Lane → Lane → Instr) (valid : Nat → Nat → Nat → Prop)
    (g : Nat → Nat → Nat → Tuple) : Prop where
  answers : ∀ (a b c : Lane) (s : State), valid a.toNat b.toNat c.toNat →
    exec (mk a b c) s = .next (answered s (tupleResponse (g a.toNat b.toNat c.toNat)))
  violates : ∀ (a b c : Lane) (s : State), ¬ valid a.toNat b.toNat c.toNat →
    exec (mk a b c) s = .next (s.respondAny (mk a b c))

section
variable {mk : Lane → Lane → Lane → Instr} {valid : Nat → Nat → Nat → Prop} {g : Nat → Nat → Nat → Tuple}

theorem ComputesTuple.outOfRange (C : ComputesTuple mk valid g) : TupleOutOfRange mk valid :=
  fun s a b c h => ⟨_, C.violates a b c s h⟩

/-- The rule of a format T instruction, from its row of the opcode map and the bounds of its channels. -/
theorem ComputesTuple.tupleRule (C : ComputesTuple mk valid g) {f : Nat → Nat → Nat → Nat × Nat × Nat}
    (hf : ∀ a b c, f a b c = (g a b c).channels) {opc : Opcode} {i : Nat} (hrow : opcodeRows[i]? = some (opc, tupleWord mk))
    {r2h : Bool} (hpresent : ∀ hasR2H, (r2h = true → hasR2H = true) → rowPresent hasR2H opc = true)
    {m2 m1 m0 : Nat} (hmax : max m2 (max m1 m0) < 2 ^ 16)
    (bound : ∀ a b c, valid a b c → (g a b c).c2 ≤ m2 ∧ (g a b c).c1 ≤ m1 ∧ (g a b c).c0 ≤ m0) :
    TupleRule opc mk r2h valid (m2, m1, m0) f := by
  refine ⟨fun hasR2H w hopc hunit => ?encoding, fun s a b c hvalid => ?result⟩
  case encoding =>
    exact (decodesAsRow_of_mem_opcodeRows _ (List.mem_of_getElem? hrow)).of_present hopc (hpresent hasR2H hunit)
  case result =>
    obtain ⟨le2, le1, le0⟩ := bound _ _ _ hvalid
    have largest_lt : (g a.toNat b.toNat c.toNat).largest < 2 ^ 16 :=
      (max_le_max le2 (max_le_max le1 le0)).trans_lt hmax
    rw [C.answers a b c s hvalid, tupleResponse_eq_ofNat largest_lt, hf]
    exact ⟨le2, le1, le0, rfl⟩

end

theorem takesTuple_of_all {f : Nat → Nat → Nat → Nat × Nat × Nat} {values : List ((Nat × Nat × Nat) × (Nat × Nat × Nat))}
    (h : (values.all fun q => f q.1.1 q.1.2.1 q.1.2.2 == q.2) = true) : TakesTuple f values := by
  simpa only [TakesTuple, List.all_eq_true, beq_iff_eq] using h

/-! The channel assignment (43_hsv_to_rgb.md R185). -/

theorem assignSector_zero (top bot part : Nat) : assignSector 0 top bot part = ⟨top, bot + part, bot⟩ := rfl
theorem assignSector_one (top bot part : Nat) : assignSector 1 top bot part = ⟨top - part, top, bot⟩ := rfl
theorem assignSector_two (top bot part : Nat) : assignSector 2 top bot part = ⟨bot, top, bot + part⟩ := rfl
theorem assignSector_three (top bot part : Nat) : assignSector 3 top bot part = ⟨bot, top - part, top⟩ := rfl
theorem assignSector_four (top bot part : Nat) : assignSector 4 top bot part = ⟨bot + part, bot, top⟩ := rfl
theorem assignSector_five (top bot part : Nat) : assignSector 5 top bot part = ⟨top, bot, top - part⟩ := rfl

theorem assignSector_of_five_lt {sector : Nat} (h : 5 < sector) (top bot part : Nat) :
    assignSector sector top bot part = assignSector 0 top bot part := by
  obtain ⟨k, rfl⟩ := Nat.exists_eq_add_of_le' (Nat.succ_le_of_lt h)
  rfl

/-- The assignment as the chain of tests of 43_hsv_to_rgb.md R186. -/
theorem assignSector_channels (sector top bot part : Nat) : (assignSector sector top bot part).channels =
    if sector = 1 then (top - part, top, bot)
    else if sector = 2 then (bot, top, bot + part)
    else if sector = 3 then (bot, top - part, top)
    else if sector = 4 then (bot + part, bot, top)
    else if sector = 5 then (top, bot, top - part)
    else (top, bot + part, bot) := by
  match sector with
  | 0 | 1 | 2 | 3 | 4 | 5 | _ + 6 => rfl

/-- A colour without chroma has three equal channels in every sector. -/
theorem assignSector_gray (sector top : Nat) : assignSector sector top top 0 = ⟨top, top, top⟩ := by
  unfold assignSector
  split <;> rfl

/-! The hue-sector function (43_hsv_to_rgb.md R186). -/

theorem hsvFormula_eq_channels (hw msv mrgb h s v : Nat) :
    hsvFormula hw msv mrgb h s v = (hueSectorToRgb hw msv mrgb h s v).channels :=
  (assignSector_channels _ _ _ _).symm

theorem hueSectorToRgb_gray {msv : Nat} (hmsv : 0 < msv) (hw mrgb h v : Nat) :
    hueSectorToRgb hw msv mrgb h 0 v = ⟨rhu (v * mrgb) msv, rhu (v * mrgb) msv, rhu (v * mrgb) msv⟩ := by
  have range_zero : rhu (rangeHsv msv 0 v * mrgb) msv = 0 := by
    rw [rangeHsv, Nat.mul_zero, Nat.zero_div, Nat.zero_mul]
    exact rhu_mul_right 0 hmsv
  simp only [hueSectorToRgb, range_zero, Nat.sub_zero, Nat.mul_zero, Nat.zero_div, assignSector_gray]

/-- Saturation 0 is a gray, whatever the hue. -/
theorem hsvFormula_gray {msv : Nat} (hmsv : 0 < msv) (hw mrgb h v : Nat) :
    hsvFormula hw msv mrgb h 0 v = (rhu (v * mrgb) msv, rhu (v * mrgb) msv, rhu (v * mrgb) msv) := by
  rw [hsvFormula_eq_channels, hueSectorToRgb_gray hmsv]
  rfl

theorem hsvToRgb_largest_le (f : HsvFormat) (w : RgbFormat) (h : Nat) {s v : Nat} (hs : s ≤ maxSv f) (hv : v ≤ maxSv f) :
    (hsvToRgb f w h s v).largest ≤ maxRgb w := by
  calc (hsvToRgb f w h s v).largest = rhu (v * maxRgb w) (maxSv f) := hueSectorToRgb_largest (hWrap_pos f) hs
    _ ≤ rhu (maxSv f * maxRgb w) (maxSv f) := rhu_mono _ (Nat.mul_le_mul_right _ hv)
    _ = maxRgb w := rhu_mul_right _ (maxSv_pos f)

/-! The eight instructions of unit H2R. -/

/-- The nominal ranges of an HSV colour, hue up to its last code (43_hsv_to_rgb.md R180). -/
def NominalHsv (f : HsvFormat) (h s v : Nat) : Prop := h ≤ hWrap f - 1 ∧ s ≤ maxSv f ∧ v ≤ maxSv f

theorem hsvHolds_iff_nominal (f : HsvFormat) (h s v : Lane) :
    hsvHolds f h s v = true ↔ NominalHsv f h.toNat s.toNat v.toNat := by
  rw [hsvHolds_iff, NominalHsv, Nat.le_sub_one_iff_lt (hWrap_pos f)]

theorem computesTuple_of_mem_hsvInstrs {q : (Lane → Lane → Lane → Instr) × HsvFormat × RgbFormat} (hq : q ∈ hsvInstrs) :
    ComputesTuple q.1 (NominalHsv q.2.1) (hsvToRgb q.2.1 q.2.2) where
  answers h s v st valid := by
    rw [exec_hsvInstrs q hq, answerTuple_inRange ((hsvHolds_iff_nominal _ _ _ _).2 valid)]
    rfl
  violates h s v st invalid := by
    rw [← hsvHolds_iff_nominal, Bool.not_eq_true] at invalid
    rw [exec_hsvInstrs q hq, answerTuple_violation invalid]

/-- The rule of the H2R instruction `i`, in row `30 + i` of the opcode map. -/
theorem hsvInstrs_rule {i : Nat} {mk : Lane → Lane → Lane → Instr} {f : HsvFormat} {w : RgbFormat} {opc : Opcode}
    (hinstr : hsvInstrs[i]? = some (mk, f, w)) (hrow : opcodeRows[30 + i]? = some (opc, tupleWord mk))
    (hunit : opc.toNat / 4096 ≠ 5) :
    TupleRule opc mk false (NominalHsv f) (maxRgb w, maxRgb w, maxRgb w) (hsvFormula (hWrap f) (maxSv f) (maxRgb w)) ∧
      TupleOutOfRange mk (NominalHsv f) := by
  have C := computesTuple_of_mem_hsvInstrs (List.mem_of_getElem? hinstr)
  refine ⟨C.tupleRule (hsvFormula_eq_channels _ _ _) hrow (fun _ _ => rowPresent_iff.2 (.inr hunit)) ?_ ?_, C.outOfRange⟩
  · simpa only [max_self] using maxRgb_lt w
  · rintro h s v ⟨-, hs, hv⟩
    exact Tuple.channels_le_of_largest_le (hsvToRgb_largest_le f w h hs hv)

end Sys2Proof.Machine
end

section
/-! PROOF. The channel assignment (43_hsv_to_rgb.md R185) and the eight H2R instructions (43_hsv_to_rgb.md R190 to R197). -/

namespace Sys2Proof.Machine

open Sys2Proof.Claims

/-- Settles O29, by the cases of the assignment. -/
theorem channelAssignmentAndDefensiveSector : Obligations.ChannelAssignmentAndDefensiveSector := by
  intro sector top bot part
  exact ⟨fun h => h ▸ assignSector_zero top bot part, fun h => h ▸ assignSector_one top bot part,
    fun h => h ▸ assignSector_two top bot part, fun h => h ▸ assignSector_three top bot part,
    fun h => h ▸ assignSector_four top bot part, fun h => h ▸ assignSector_five top bot part,
    fun h => assignSector_of_five_lt h top bot part⟩

/-- Settles O26. The formula is the model's hue-sector function, whose largest channel is the rescaled value and so at most
`max_rgb`; saturation 0 leaves no chroma in any sector. -/
theorem hsvToRgbOfEightBitAndDecimalHues : Obligations.HsvToRgbOfEightBitAndDecimalHues := by
  refine ⟨?h888r8, ?h888r16, ?hdecr8, ?hdecr16⟩
  case h888r8 =>
    obtain ⟨rule, outOfRange⟩ := hsvInstrs_rule (i := 0) rfl rfl (by decide)
    exact ⟨rule, outOfRange, takesTuple_of_all (by decide), by decide, fun h _ => hsvFormula_gray (by decide) _ _ h _⟩
  case h888r16 =>
    obtain ⟨rule, outOfRange⟩ := hsvInstrs_rule (i := 1) rfl rfl (by decide)
    exact ⟨rule, outOfRange, takesTuple_of_all (by decide), by decide, fun h _ => hsvFormula_gray (by decide) _ _ h _⟩
  case hdecr8 =>
    obtain ⟨rule, outOfRange⟩ := hsvInstrs_rule (i := 2) rfl rfl (by decide)
    exact ⟨rule, outOfRange, takesTuple_of_all (by decide), by decide, fun h _ => hsvFormula_gray (by decide) _ _ h _⟩
  case hdecr16 =>
    obtain ⟨rule, outOfRange⟩ := hsvInstrs_rule (i := 3) rfl rfl (by decide)
    exact ⟨rule, outOfRange, takesTuple_of_all (by decide), by decide, fun h _ => hsvFormula_gray (by decide) _ _ h _⟩

/-- Settles O27. As for O26; every operand of HSV48 is nominal, so its two instructions have no violation clause. -/
theorem hsvToRgbOfSixteenBitHues : Obligations.HsvToRgbOfSixteenBitHues := by
  refine ⟨?h32r8, ?h32r16, ?h48r8, ?h48r16⟩
  case h32r8 =>
    obtain ⟨rule, outOfRange⟩ := hsvInstrs_rule (i := 4) rfl rfl (by decide)
    exact ⟨rule, outOfRange, takesTuple_of_all (by decide), by decide, fun h _ => hsvFormula_gray (by decide) _ _ h _⟩
  case h32r16 =>
    obtain ⟨rule, outOfRange⟩ := hsvInstrs_rule (i := 5) rfl rfl (by decide)
    exact ⟨rule, outOfRange, takesTuple_of_all (by decide), by decide, fun h _ => hsvFormula_gray (by decide) _ _ h _⟩
  case h48r8 =>
    obtain ⟨rule, -⟩ := hsvInstrs_rule (i := 6) rfl rfl (by decide)
    exact ⟨rule, takesTuple_of_all (by decide), by decide, fun h _ => hsvFormula_gray (by decide) _ _ h _⟩
  case h48r16 =>
    obtain ⟨rule, -⟩ := hsvInstrs_rule (i := 7) rfl rfl (by decide)
    exact ⟨rule, takesTuple_of_all (by decide), by decide, fun h _ => hsvFormula_gray (by decide) _ _ h _⟩

end Sys2Proof.Machine
end

section
/-! SUPPORT. The function of 44_rgb_to_hsv.md R216: its transcription, its grays and the bounds of its channels; and the rule
of the eight R2H instructions, which are there only with the unit (44_rgb_to_hsv.md R210). -/

namespace Sys2Proof.Machine

open Sys2Proof.Claims

/-! The hue-sector function (44_rgb_to_hsv.md R216). -/

theorem rgbFormula_eq_channels (hw msv mrgb r g b : Nat) :
    rgbFormula hw msv mrgb r g b = (rgbToHue hw msv mrgb r g b).channels := by
  unfold rgbFormula rgbToHue
  dsimp only
  split <;> rfl

/-- A gray has neither hue nor saturation (44_rgb_to_hsv.md R212). -/
theorem rgbToHue_gray (hw msv mrgb x : Nat) : rgbToHue hw msv mrgb x x x = ⟨0, 0, rhu (x * msv) mrgb⟩ := by
  simp only [rgbToHue, max_self, min_self, Nat.sub_self, if_true]

/-- The row of the hue table that is used leaves `term` short of a whole turn of six ranges: each row adds at most one range
to the sectors before it, and the last row, red to blue, adds less because blue above `bot` is all that is left for it
(44_rgb_to_hsv.md R214). -/
theorem hueTerm_lt {r g b top bot range : Nat} (htop : max r (max g b) = top) (hbot : min r (min g b) = bot)
    (hrange : top - bot = range) (hpos : 0 < range) : hueTerm r g b top bot range < 6 * range := by
  have bounds : (r ≤ top ∧ g ≤ top ∧ b ≤ top) ∧ bot ≤ r ∧ bot ≤ g ∧ bot ≤ b := by omega
  have top_attained : r = top ∨ g = top ∨ b = top := by omega
  clear htop hbot
  obtain ⟨⟨r_le, g_le, b_le⟩, le_r, le_g, le_b⟩ := bounds
  unfold hueTerm
  split_ifs with yellow green cyan blue magenta
  case neg =>
    have b_ne : b ≠ bot := by
      rintro rfl
      rcases top_attained with hr | hg | hb
      · exact yellow ⟨hr, rfl⟩
      · exact green ⟨hg, rfl⟩
      · omega
    omega
  all_goals omega

/-- A part of a turn below one, scaled to `w` codes and floored, gets no further than with the finest parts. -/
theorem mul_div_le_of_lt_of_le {term a c w : Nat} (hterm : term < a) (hac : a ≤ c) :
    term * w / a ≤ (c - 1) * w / c := by
  obtain ⟨rest, hrest⟩ := Nat.exists_eq_add_of_le (Nat.div_le_of_le_mul (Nat.mul_le_mul_right w hterm.le))
  have rest_large : w ≤ rest * a := by
    have split_turn : term * w / a * a + rest * a = w * a := by rw [← Nat.add_mul, ← hrest]
    have code_le : term * w / a * a ≤ term * w := Nat.div_mul_le_self _ _
    have next_le : term * w + w ≤ w * a := by
      rw [← Nat.succ_mul, Nat.mul_comm w]
      exact Nat.mul_le_mul_right w hterm
    omega
  rw [Nat.le_div_iff_mul_le (Nat.zero_lt_of_lt (hterm.trans_le hac)), Nat.sub_mul, Nat.one_mul]
  refine Nat.le_sub_of_add_le ?_
  calc term * w / a * c + w ≤ term * w / a * c + rest * c :=
        Nat.add_le_add_left (rest_large.trans (Nat.mul_le_mul_left rest hac)) _
    _ = c * w := by rw [← Nat.add_mul, ← hrest, Nat.mul_comm]

/-- The largest hue of any colour with channels up to `max_rgb`: one code of the finest range short of a turn
(44_rgb_to_hsv.md R217). -/
def largestHue (f : HsvFormat) (w : RgbFormat) : Nat := (6 * maxRgb w - 1) * hWrap f / (6 * maxRgb w)

theorem largestHue_lt (f : HsvFormat) (w : RgbFormat) : largestHue f w < hWrap f := by
  cases f <;> cases w <;> decide

/-- The range is at most the largest channel it is divided by, so saturation is at most `max_sv` (44_rgb_to_hsv.md R213). -/
theorem rgbToHue_c1_le (hw msv mrgb r g b : Nat) : (rgbToHue hw msv mrgb r g b).c1 ≤ msv := by
  unfold rgbToHue
  dsimp only
  split
  case isTrue => exact Nat.zero_le _
  case isFalse chroma =>
    calc rhu ((max r (max g b) - min r (min g b)) * msv) (max r (max g b))
        ≤ rhu (max r (max g b) * msv) (max r (max g b)) := rhu_mono _ (Nat.mul_le_mul_right _ (Nat.sub_le _ _))
      _ = msv := rhu_mul_right msv (by omega)

/-- The nominal ranges of an RGB colour (44_rgb_to_hsv.md R210). -/
def NominalRgb (w : RgbFormat) (r g b : Nat) : Prop := r ≤ maxRgb w ∧ g ≤ maxRgb w ∧ b ≤ maxRgb w

section
variable {w : RgbFormat} {r g b : Nat}

theorem NominalRgb.max_le (h : NominalRgb w r g b) : max r (max g b) ≤ maxRgb w := by
  simpa only [NominalRgb, Nat.max_le] using h

theorem NominalRgb.hue_le (h : NominalRgb w r g b) (f : HsvFormat) : (rgbToHsv f w r g b).c2 ≤ largestHue f w := by
  have top_le := h.max_le
  unfold rgbToHsv rgbToHue
  dsimp only
  split
  case isTrue => exact Nat.zero_le _
  case isFalse chroma =>
    have term_lt := hueTerm_lt (r := r) (g := g) (b := b) rfl rfl rfl (Nat.pos_of_ne_zero chroma)
    rw [Nat.mul_comm 6] at term_lt
    exact mul_div_le_of_lt_of_le term_lt (by omega)

theorem NominalRgb.value_le (h : NominalRgb w r g b) (f : HsvFormat) : (rgbToHsv f w r g b).c0 ≤ maxSv f := by
  calc (rgbToHsv f w r g b).c0 = rhu (max r (max g b) * maxSv f) (maxRgb w) := rgbToHue_c0 _ _ _ _ _ _
    _ ≤ rhu (maxRgb w * maxSv f) (maxRgb w) := rhu_mono _ (Nat.mul_le_mul_right _ h.max_le)
    _ = maxSv f := rhu_mul_right _ (maxRgb_pos w)

end

/-! The eight instructions of unit R2H. -/

theorem computesTuple_of_mem_rgbInstrs {q : (Lane → Lane → Lane → Instr) × HsvFormat × RgbFormat} (hq : q ∈ rgbInstrs) :
    ComputesTuple q.1 (NominalRgb q.2.2) (rgbToHsv q.2.1 q.2.2) where
  answers r g b s valid := by
    rw [exec_rgbInstrs q hq, answerTuple_inRange ((rgbHolds_iff _ _ _ _).2 valid)]
    rfl
  violates r g b s invalid := by
    rw [NominalRgb, ← rgbHolds_iff, Bool.not_eq_true] at invalid
    rw [exec_rgbInstrs q hq, answerTuple_violation invalid]

theorem reservedWithoutUnit_of_row {opc : Opcode} {row : Command → Instr} (hrow : (opc, row) ∈ opcodeRows)
    (hunit : opc.toNat / 4096 = 5) : ReservedWithoutUnit opc := by
  intro w hopc
  have habsent : ¬ rowPresent false opc = true := by simp [rowPresent_iff, hunit]
  exact ⟨_, (decodesAsRow_of_mem_opcodeRows _ hrow).of_absent hopc habsent⟩

section
variable {i : Nat} {mk : Lane → Lane → Lane → Instr} {f : HsvFormat} {w : RgbFormat}

/-- The rule of the R2H instruction `i`, in row `38 + i` of the opcode map, and its largest hue. -/
theorem rgbInstrs_rule {opc : Opcode} (hinstr : rgbInstrs[i]? = some (mk, f, w))
    (hrow : opcodeRows[38 + i]? = some (opc, tupleWord mk)) (hunit : opc.toNat / 4096 = 5) :
    TupleRule opc mk true (NominalRgb w) (hWrap f - 1, maxSv f, maxSv f) (rgbFormula (hWrap f) (maxSv f) (maxRgb w)) ∧
      ReservedWithoutUnit opc ∧ TupleOutOfRange mk (NominalRgb w) ∧
      ∀ r g b, r ≤ maxRgb w → g ≤ maxRgb w → b ≤ maxRgb w →
        (rgbFormula (hWrap f) (maxSv f) (maxRgb w) r g b).1 ≤ largestHue f w := by
  have C := computesTuple_of_mem_rgbInstrs (List.mem_of_getElem? hinstr)
  refine ⟨?rule, reservedWithoutUnit_of_row (List.mem_of_getElem? hrow) hunit, C.outOfRange, fun r g b hr hg hb => ?hue⟩
  case rule =>
    refine C.tupleRule (rgbFormula_eq_channels _ _ _) hrow (fun _ present => rowPresent_iff.2 (.inl (present rfl))) ?_ ?_
    · have hue_lt : hWrap f - 1 < 2 ^ 16 := by cases f <;> decide
      exact max_lt hue_lt (by simpa only [max_self] using maxSv_lt f)
    · intro r g b valid
      exact ⟨(valid.hue_le f).trans (Nat.le_sub_one_of_lt (largestHue_lt f w)), rgbToHue_c1_le _ _ _ _ _ _,
        valid.value_le f⟩
  case hue =>
    rw [rgbFormula_eq_channels]
    exact NominalRgb.hue_le ⟨hr, hg, hb⟩ f

/-- The R2H instruction `i` answers a gray with its rescaled value alone, below the two empty lanes. -/
theorem rgbInstrs_answer_gray (hinstr : rgbInstrs[i]? = some (mk, f, w)) {x : Lane} (hx : x.toNat ≤ maxRgb w) (s : State) :
    exec (mk x x x) s = .next (answered s (BitVec.ofNat 48 (rhu (x.toNat * maxSv f) (maxRgb w)))) := by
  have gray : rgbToHsv f w x.toNat x.toNat x.toNat = ⟨0, 0, rhu (x.toNat * maxSv f) (maxRgb w)⟩ := rgbToHue_gray _ _ _ _
  have valid : NominalRgb w x.toNat x.toNat x.toNat := ⟨hx, hx, hx⟩
  have value_le : rhu (x.toNat * maxSv f) (maxRgb w) ≤ maxSv f := by simpa only [gray] using valid.value_le f
  have largest_lt : (Tuple.mk 0 0 (rhu (x.toNat * maxSv f) (maxRgb w))).largest < 2 ^ 16 := by
    simpa only [Tuple.largest, Nat.zero_max] using value_le.trans_lt (maxSv_lt f)
  rw [(computesTuple_of_mem_rgbInstrs (List.mem_of_getElem? hinstr)).answers x x x s valid]
  dsimp only
  rw [gray, tupleResponse_eq_ofNat largest_lt]
  simp only [Nat.zero_mul, Nat.zero_add]

end

end Sys2Proof.Machine
end

section
/-! PROOF. The eight R2H instructions (44_rgb_to_hsv.md R220 to R227) and their grays (44_rgb_to_hsv.md R212). -/

namespace Sys2Proof.Machine

open Sys2Proof.Claims

/-- Settles O36. A gray has no range, so only the value lane is left. -/
theorem graysHaveNoHueAndNoSaturation : Obligations.GraysHaveNoHueAndNoSaturation := by
  intro s x
  have hx16 : x.toNat ≤ 65535 := Nat.le_of_lt_succ x.isLt
  refine ⟨fun hx8 => ⟨?_, ?_, ?_, ?_⟩, ?_, ?_, ?_, ?_⟩
  · exact rgbInstrs_answer_gray (i := 0) rfl hx8 s
  · exact rgbInstrs_answer_gray (i := 2) rfl hx8 s
  · exact rgbInstrs_answer_gray (i := 4) rfl hx8 s
  · exact rgbInstrs_answer_gray (i := 6) rfl hx8 s
  · exact rgbInstrs_answer_gray (i := 1) rfl hx16 s
  · exact rgbInstrs_answer_gray (i := 3) rfl hx16 s
  · exact rgbInstrs_answer_gray (i := 5) rfl hx16 s
  · exact rgbInstrs_answer_gray (i := 7) rfl hx16 s

/-- Settles O32. The formula is the model's R2H function; its hue is largest where the range is `max_rgb` and `term` one short
of a turn. Every 16-bit operand is nominal, so those instructions have no violation clause. -/
theorem rgbToHsvOfEightBitAndDecimalHues : Obligations.RgbToHsvOfEightBitAndDecimalHues := by
  refine ⟨?r8h888, ?r16h888, ?r8hdec, ?r16hdec⟩
  case r8h888 =>
    obtain ⟨rule, reserved, outOfRange, hue⟩ := rgbInstrs_rule (i := 0) rfl rfl (by decide)
    exact ⟨rule, reserved, outOfRange, takesTuple_of_all (by decide), hue⟩
  case r16h888 =>
    obtain ⟨rule, reserved, -, hue⟩ := rgbInstrs_rule (i := 1) rfl rfl (by decide)
    exact ⟨rule, reserved, takesTuple_of_all (by decide), hue⟩
  case r8hdec =>
    obtain ⟨rule, reserved, outOfRange, hue⟩ := rgbInstrs_rule (i := 2) rfl rfl (by decide)
    exact ⟨rule, reserved, outOfRange, takesTuple_of_all (by decide), hue⟩
  case r16hdec =>
    obtain ⟨rule, reserved, -, hue⟩ := rgbInstrs_rule (i := 3) rfl rfl (by decide)
    exact ⟨rule, reserved, takesTuple_of_all (by decide), hue⟩

/-- Settles O33. As for O32; with 8-bit channels the 16-bit hue stops 42 codes short of its range. -/
theorem rgbToHsvOfSixteenBitHues : Obligations.RgbToHsvOfSixteenBitHues := by
  refine ⟨?r8h32, ?r16h32, ?r8h48, ?r16h48⟩
  case r8h32 =>
    obtain ⟨rule, reserved, outOfRange, hue⟩ := rgbInstrs_rule (i := 4) rfl rfl (by decide)
    exact ⟨rule, reserved, outOfRange, takesTuple_of_all (by decide), hue⟩
  case r16h32 =>
    obtain ⟨rule, reserved, -, hue⟩ := rgbInstrs_rule (i := 5) rfl rfl (by decide)
    exact ⟨rule, reserved, takesTuple_of_all (by decide), hue⟩
  case r8h48 =>
    obtain ⟨rule, reserved, outOfRange, hue⟩ := rgbInstrs_rule (i := 6) rfl rfl (by decide)
    exact ⟨rule, reserved, outOfRange, takesTuple_of_all (by decide), hue⟩
  case r16h48 =>
    obtain ⟨rule, reserved, -, hue⟩ := rgbInstrs_rule (i := 7) rfl rfl (by decide)
    exact ⟨rule, reserved, takesTuple_of_all (by decide), hue⟩

end Sys2Proof.Machine
end

section
/-! SUPPORT. Every instruction is of one of the two formats, and the opcode map lists them by format: its word is the row's
opcode and the operands (30_encoding.md R60, R69). -/

namespace Sys2Proof.Machine

open Sys2Proof.Claims

/-- The 16 instructions of format T. -/
def tupleInstrs : List (Lane → Lane → Lane → Instr) := hsvInstrs.map (·.1) ++ rgbInstrs.map (·.1)

/-- What holds of every instruction of the two formats holds of every instruction. -/
theorem forall_instr_of_formats {P : Instr → Prop} (scalar : ∀ mk ∈ scalarInstrs, ∀ ign x, P (mk ign x))
    (tuple : ∀ mk ∈ tupleInstrs, ∀ a b c, P (mk a b c)) (i : Instr) : P i := by
  cases i with
  | rsU5U8 ign x | rsU8U5 ign x | rsU5U16 ign x | rsU16U5 ign x | rsU6U8 ign x | rsU8U6 ign x | rsU6U16 ign x
  | rsU16U6 ign x | rsU8U8 ign x | rsU8U8I ign x | rsU8U16 ign x | rsU16U8 ign x | rsU16U16 ign x | rsU16U16I ign x
  | rsPctU8 ign x | rsU8Pct ign x | rsPctU16 ign x | rsU16Pct ign x | rsA8Deg ign x | rsDegA8 ign x | rsDegA16 ign x
  | rsA16Deg ign x | rsA8A16 ign x | rsA16A8 ign x | gdG8L8 ign x | gdG8L16 ign x | gdG16L16 ign x | geL8G8 ign x
  | geL16G8 ign x | geL16G16 ign x => exact scalar _ (by simp [scalarInstrs]) ign x
  | h2rH888R8 a b c | h2rH888R16 a b c | h2rHdecR8 a b c | h2rHdecR16 a b c | h2rH32R8 a b c | h2rH32R16 a b c
  | h2rH48R8 a b c | h2rH48R16 a b c | r2hR8H888 a b c | r2hR16H888 a b c | r2hR8Hdec a b c | r2hR16Hdec a b c
  | r2hR8H32 a b c | r2hR16H32 a b c | r2hR8H48 a b c | r2hR16H48 a b c =>
    exact tuple _ (by simp [tupleInstrs, hsvInstrs, rgbInstrs]) a b c

/-- The opcode of a format S instruction, whatever its operand. -/
def scalarOpcode (mk : Ignored → Lane → Instr) : Opcode := opcodeField (encode (mk 0 0))

/-- The opcode of a format T instruction, whatever its operands. -/
def tupleOpcode (mk : Lane → Lane → Lane → Instr) : Opcode := opcodeField (encode (mk 0 0 0))

theorem encode_of_mem_scalarInstrs :
    ∀ mk ∈ scalarInstrs, ∀ ign x, encode (mk ign x) = wordS (scalarOpcode mk) ign x := by
  simp only [scalarInstrs, List.forall_mem_cons, List.not_mem_nil, false_imp_iff, implies_true, and_true]
  and_intros
  all_goals exact fun _ _ => rfl

theorem encode_of_mem_tupleInstrs :
    ∀ mk ∈ tupleInstrs, ∀ a b c, encode (mk a b c) = wordT (tupleOpcode mk) a b c := by
  simp only [tupleInstrs, hsvInstrs, rgbInstrs, List.map_cons, List.map_nil, List.forall_mem_append, List.forall_mem_cons,
    List.not_mem_nil, false_imp_iff, implies_true, and_true]
  and_intros
  all_goals exact fun _ _ _ => rfl

/-- The map of 30_encoding.md R69 lists the instructions of format S, then those of format T. -/
theorem opcodeRows_eq_formats : opcodeRows = scalarInstrs.map (fun mk => (scalarOpcode mk, scalarWord mk)) ++
    tupleInstrs.map (fun mk => (tupleOpcode mk, tupleWord mk)) := rfl

theorem opcodeRows_opcodes : opcodeRows.map (·.1) = opcodeMap := rfl

theorem scalarRow_mem {mk : Ignored → Lane → Instr} (hmk : mk ∈ scalarInstrs) :
    (scalarOpcode mk, scalarWord mk) ∈ opcodeRows := by
  rw [opcodeRows_eq_formats]
  exact List.mem_append_left _ (List.mem_map_of_mem hmk)

theorem tupleRow_mem {mk : Lane → Lane → Lane → Instr} (hmk : mk ∈ tupleInstrs) :
    (tupleOpcode mk, tupleWord mk) ∈ opcodeRows := by
  rw [opcodeRows_eq_formats]
  exact List.mem_append_right _ (List.mem_map_of_mem hmk)

theorem scalarWord_fields (mk : Ignored → Lane → Instr) (w : Command) :
    scalarWord mk w = mk (ignoredField w) (lane0 w) := rfl

theorem tupleWord_fields (mk : Lane → Lane → Lane → Instr) (w : Command) :
    tupleWord mk w = mk (lane2 w) (lane1 w) (lane0 w) := rfl

theorem scalarWord_wordS (mk : Ignored → Lane → Instr) (opc : Opcode) (ign : Ignored) (x : Lane) :
    scalarWord mk (wordS opc ign x) = mk ign x := by
  rw [scalarWord_fields, ignoredField_wordS, lane0_wordS]

theorem tupleWord_wordT (mk : Lane → Lane → Lane → Instr) (opc : Opcode) (a b c : Lane) :
    tupleWord mk (wordT opc a b c) = mk a b c := by
  rw [tupleWord_fields, lane2_wordT, lane1_wordT, lane0_wordT]

/-- Encoding the instruction that a row reads from a word of its opcode gives the word back. -/
theorem encode_of_mem_opcodeRows {row : Opcode × (Command → Instr)} (hrow : row ∈ opcodeRows) {w : Command}
    (hopc : opcodeField w = row.1) : encode (row.2 w) = w := by
  rw [opcodeRows_eq_formats, List.mem_append, List.mem_map, List.mem_map] at hrow
  rcases hrow with ⟨mk, hmk, rfl⟩ | ⟨mk, hmk, rfl⟩
  · calc encode (scalarWord mk w) = wordS (scalarOpcode mk) (ignoredField w) (lane0 w) :=
          encode_of_mem_scalarInstrs mk hmk _ _
      _ = w := by rw [show scalarOpcode mk = opcodeField w from hopc.symm, wordS_of_fields]
  · calc encode (tupleWord mk w) = wordT (tupleOpcode mk) (lane2 w) (lane1 w) (lane0 w) :=
          encode_of_mem_tupleInstrs mk hmk _ _ _
      _ = w := by rw [show tupleOpcode mk = opcodeField w from hopc.symm, wordT_of_fields]

/-- A row outside UNIT 5 is there with and without the unit. -/
theorem decode_of_row {opc : Opcode} {row : Command → Instr} {i : Nat} (hrow : opcodeRows[i]? = some (opc, row))
    (hunit : opc.toNat / 4096 ≠ 5) (hasR2H : Bool) {w : Command} (hopc : opcodeField w = opc) :
    decode hasR2H w = .ok (row w) :=
  (decodesAsRow_of_mem_opcodeRows _ (List.mem_of_getElem? hrow)).of_present hopc (rowPresent_iff.2 (.inr hunit))

/-- With the R2H unit every row is there. -/
theorem DecodesAsRow.of_unit {row : Opcode × (Command → Instr)} (R : DecodesAsRow row) {w : Command}
    (hopc : opcodeField w = row.1) : decode true w = .ok (row.2 w) :=
  R.of_present hopc (rowPresent_iff.2 (.inl rfl))

/-- What the decoder reads, it reads from a row of the map. -/
theorem exists_row_of_decode {hasR2H : Bool} {w : Command} {i : Instr} (h : decode hasR2H w = .ok i) :
    ∃ row ∈ opcodeRows, opcodeField w = row.1 ∧ row.2 w = i := by
  by_cases hmapped : opcodeField w ∈ opcodeRows.map (·.1)
  · obtain ⟨row, hrow, hopc⟩ := List.mem_map.1 hmapped
    refine ⟨row, hrow, hopc.symm, ?_⟩
    rw [decodesAsRow_of_mem_opcodeRows row hrow hasR2H w hopc.symm] at h
    split at h
    · exact Except.ok.inj h
    · cases h
  · rw [decode_of_notMem_opcodeRows hmapped] at h
    cases h

/-- With the R2H unit the reserved words are those whose opcode is in no row. -/
theorem reserved_iff_notMem (w : Command) : (∃ why, decode true w = .error why) ↔ opcodeField w ∉ opcodeMap := by
  rw [← opcodeRows_opcodes]
  constructor
  · rintro ⟨why, herror⟩ hmapped
    obtain ⟨row, hrow, hopc⟩ := List.mem_map.1 hmapped
    rw [(decodesAsRow_of_mem_opcodeRows row hrow).of_unit hopc.symm] at herror
    cases herror
  · exact fun h => ⟨_, decode_of_notMem_opcodeRows h true⟩

/-- The field values 30_encoding.md R71 lists as reserved. -/
def reservedFields (unit sub gap mode : Nat) : Bool :=
  unit == 0 || decide (6 ≤ unit) || gap != 0 ||
    (unit == 1 && (decide (12 ≤ sub) || mode / 2 != 0)) ||
    ((unit == 2 || unit == 3) && (decide (3 ≤ sub) || mode != 0)) ||
    ((unit == 4 || unit == 5) && (sub / 4 != 0 || mode / 2 != 0))

theorem reservedFields_iff {unit sub gap mode : Nat} : reservedFields unit sub gap mode = true ↔
    unit = 0 ∨ 6 ≤ unit ∨ gap ≠ 0 ∨
      (unit = 1 ∧ (12 ≤ sub ∨ mode / 2 ≠ 0)) ∨
      ((unit = 2 ∨ unit = 3) ∧ (3 ≤ sub ∨ mode ≠ 0)) ∨
      ((unit = 4 ∨ unit = 5) ∧ (sub / 4 ≠ 0 ∨ mode / 2 ≠ 0)) := by
  simp only [reservedFields, Bool.or_eq_true, Bool.and_eq_true, beq_iff_eq, bne_iff_ne, decide_eq_true_eq, or_assoc]

theorem opcodeMap_not_reservedFields : opcodeMap.all (fun opc =>
    !reservedFields (unitField opc) (subField opc) (zeroFieldOf opc) (modeField opc)) = true := by decide +kernel

/-- The opcode of its fields, ZERO being 0 (30_encoding.md R60). -/
def opcodeOfFields (unit sub mode : Nat) : Opcode := BitVec.ofNat 16 (4096 * unit + 256 * sub + mode)

theorem opcodeOfFields_of_fields {opc : Opcode} (hgap : zeroFieldOf opc = 0) :
    opcodeOfFields (unitField opc) (subField opc) (modeField opc) = opc := by
  apply BitVec.eq_of_toNat_eq
  have hlt := opc.isLt
  rw [opcodeOfFields, BitVec.toNat_ofNat]
  unfold unitField subField zeroFieldOf modeField at *
  omega

/-- The 46 combinations of fields that are not listed are the map's. -/
theorem opcodeOfFields_mem : ∀ (unit : Fin 6) (sub : Fin 12) (mode : Fin 2), reservedFields unit sub 0 mode = false →
    opcodeOfFields unit sub mode ∈ opcodeMap := by decide +kernel

theorem notMem_opcodeMap_iff (opc : Opcode) : opc ∉ opcodeMap ↔
    reservedFields (unitField opc) (subField opc) (zeroFieldOf opc) (modeField opc) = true := by
  refine ⟨fun hunmapped => ?_, fun hlisted hmapped => ?_⟩
  · by_contra hunlisted
    have fields : unitField opc < 6 ∧ subField opc < 12 ∧ zeroFieldOf opc = 0 ∧ modeField opc < 2 := by
      rw [reservedFields_iff] at hunlisted
      omega
    obtain ⟨hunit, hsub, hgap, hmode⟩ := fields
    rw [Bool.not_eq_true, hgap] at hunlisted
    have hmapped := opcodeOfFields_mem ⟨_, hunit⟩ ⟨_, hsub⟩ ⟨_, hmode⟩ hunlisted
    exact hunmapped (opcodeOfFields_of_fields hgap ▸ hmapped)
  · have hunlisted := List.all_eq_true.1 opcodeMap_not_reservedFields opc hmapped
    simp [hlisted] at hunlisted

end Sys2Proof.Machine
end

section
/-! PROOF. Decoder and encoder (30_encoding.md R60, R69 to R71; 44_rgb_to_hsv.md R210). -/

namespace Sys2Proof.Machine

open Sys2Proof.Claims

/-- Settles O1. The word of an instruction carries the opcode of the instruction's row, and the row reads the operands
back. -/
theorem decodeOfEncodeIsTheInstruction : Obligations.DecodeOfEncodeIsTheInstruction := by
  refine forall_instr_of_formats (fun mk hmk ign x => ?scalar) (fun mk hmk a b c => ?tuple)
  case scalar =>
    rw [encode_of_mem_scalarInstrs mk hmk]
    calc decode true (wordS (scalarOpcode mk) ign x) = .ok (scalarWord mk (wordS (scalarOpcode mk) ign x)) :=
          (decodesAsRow_of_mem_opcodeRows _ (scalarRow_mem hmk)).of_unit (opcodeField_wordS _ _ _)
      _ = .ok (mk ign x) := congrArg Except.ok (scalarWord_wordS mk _ ign x)
  case tuple =>
    rw [encode_of_mem_tupleInstrs mk hmk]
    calc decode true (wordT (tupleOpcode mk) a b c) = .ok (tupleWord mk (wordT (tupleOpcode mk) a b c)) :=
          (decodesAsRow_of_mem_opcodeRows _ (tupleRow_mem hmk)).of_unit (opcodeField_wordT _ _ _ _)
      _ = .ok (mk a b c) := congrArg Except.ok (tupleWord_wordT mk _ a b c)

/-- Settles O2. The instruction was read by a row of the map, which carries every bit beside the opcode. -/
theorem encodeOfDecodeIsTheWord : Obligations.EncodeOfDecodeIsTheWord := by
  intro hasR2H w i hdecode
  obtain ⟨row, hrow, hopc, rfl⟩ := exists_row_of_decode hdecode
  exact encode_of_mem_opcodeRows hrow hopc

/-- Settles O4. A word is reserved when its opcode is in no row, and the rows are all combinations of fields not listed. -/
theorem reservedWordsAreTheListedCases : Obligations.ReservedWordsAreTheListedCases :=
  ⟨fun w => ((reserved_iff_notMem w).trans (notMem_opcodeMap_iff _)).trans reservedFields_iff, ⟨.unit, rfl⟩, ⟨.unit, rfl⟩⟩

/-- Settles O5. Absence of the unit matters to a row of UNIT 5 only, and to no opcode outside the map. -/
theorem absentUnitReservesItsOpcodesOnly : Obligations.AbsentUnitReservesItsOpcodesOnly := by
  intro w
  have present_iff : rowPresent false (opcodeField w) = true ↔ (opcodeField w).toNat / 4096 ≠ 5 := by
    rw [rowPresent_iff, Bool.false_eq_true, false_or]
  by_cases hmapped : opcodeField w ∈ opcodeRows.map (·.1)
  · obtain ⟨row, hrow, hopc⟩ := List.mem_map.1 hmapped
    have R := decodesAsRow_of_mem_opcodeRows row hrow
    rw [← hopc] at present_iff
    refine ⟨fun hlow hhigh => ⟨_, R.of_absent hopc.symm ?_⟩, fun hother => ?_⟩
    · rw [present_iff, hopc]
      exact not_not.2 (Nat.div_eq_of_lt_le hlow hhigh)
    · have hpresent : rowPresent false row.1 = true := by
        rw [present_iff, hopc]
        change (opcodeField w).toNat < 20480 ∨ 24576 ≤ (opcodeField w).toNat at hother
        omega
      rw [R.of_present hopc.symm hpresent, R.of_unit hopc.symm]
  · exact ⟨fun _ _ => ⟨_, decode_of_notMem_opcodeRows hmapped false⟩,
      fun _ => by rw [decode_of_notMem_opcodeRows hmapped, decode_of_notMem_opcodeRows hmapped]⟩

/-- Settles O6. Each word carries the opcode of its instruction's row. -/
theorem sampleWordsDecode : Obligations.SampleWordsDecode := ⟨rfl, rfl, rfl, rfl, rfl, rfl⟩

end Sys2Proof.Machine
end

section
/-! SUPPORT. What every instruction answers: within the contract a response that depends on `GAMMA16_MODE` alone, and a draw
outside it (60_exceptions.md R262). -/

namespace Sys2Proof.Machine

open Sys2Proof.Claims

/-! Format S. -/

/-- The contract and the meaning of a format S instruction whose results fit one lane and are 0 on operand 0. -/
structure ComputesLane (mk : Ignored → Lane → Instr) (k : ChannelKind) (f : GammaMode → Lane → Nat) : Prop where
  computes : Computes mk k f
  lt : ∀ m x, x.toNat ≤ kindMax k → f m x < 2 ^ 16
  zero : ∀ m, f m 0 = 0

section
variable {p : RangePair} {small large : ChannelKind} {up down : Ignored → Lane → Instr}

theorem toLarge_zero {p : RangePair} (hs : 0 < p.small) : toLarge p 0 = 0 := by
  rw [toLarge_eq_rhu, Nat.zero_mul]
  exact rhu_mul_right 0 (by unfold RangePair.smallSpan; split <;> omega)

theorem toSmall_zero {p : RangePair} (hl : 0 < p.large) : toSmall p 0 = 0 := by
  have unwrapped : p.unwrapped 0 = 0 := by
    rw [RangePair.unwrapped, Nat.zero_mul]
    exact rhu_mul_right 0 (by unfold RangePair.largeSpan; split <;> omega)
  rw [toSmall_of_unwrapped_le (unwrapped.trans_le (Nat.zero_le _)), unwrapped]

theorem RescalesPair.up_computesLane (R : RescalesPair p small large up down) :
    ComputesLane up small (fun _ x => toLarge p x.toNat) where
  computes := R.up_computes
  lt _ _ hx := (toLarge_le R.small_pos R.small_le_large (R.small_max ▸ hx)).trans_lt R.large_lt
  zero _ := toLarge_zero R.small_pos

theorem RescalesPair.down_computesLane (R : RescalesPair p small large up down) :
    ComputesLane down large (fun _ x => toSmall p x.toNat) where
  computes := R.down_computes
  lt _ _ hx := (toSmall_le R.large_pos (R.large_max ▸ hx)).trans_lt (R.small_le_large.trans_lt R.large_lt)
  zero _ := toSmall_zero R.large_pos

end

section
variable {mk : Ignored → Lane → Instr} {k : ChannelKind} {f : GammaMode → Lane → Nat}

theorem Computes.computesLane_of_rom {n : Nat} {rom : List (BitVec n)} (C : Computes mk .u8 (fun _ x => romRead rom x.toNat))
    (hn : n ≤ 16) (hzero : romRead rom 0 = 0) : ComputesLane mk .u8 (fun _ x => romRead rom x.toNat) where
  computes := C
  lt _ x _ := (romRead_lt rom x.toNat).trans_le (Nat.pow_le_pow_right two_pos hn)
  zero _ := hzero

theorem Computes.computesLane_of_monotoneOnto (C : Computes mk k f) {top : Nat} (htop : top < 2 ^ 16)
    (hf : ∀ m, MonotoneOnto (f m) top) : ComputesLane mk k f where
  computes := C
  lt m x _ := monotoneOnto_lt (hf m) htop x
  zero m := by
    obtain ⟨-, zero, -⟩ := hf m
    exact zero

theorem ComputesLane.answers (C : ComputesLane mk k f) {x : Lane} (hx : x.toNat ≤ kindMax k) (ign : Ignored) (s : State) :
    exec (mk ign x) s = .next (answered s (BitVec.ofNat 48 (f s.gammaMode x))) := by
  rw [C.computes.answers hx, scalarResponse_eq_ofNat (C.lt _ _ hx)]

end

/-- Every format S instruction has a kind and a result function. -/
theorem computesLane_of_mem_scalarInstrs : ∀ mk ∈ scalarInstrs, ∃ k f, ComputesLane mk k f := by
  simp only [scalarInstrs, List.forall_mem_cons, List.not_mem_nil, false_imp_iff, implies_true, and_true]
  exact ⟨⟨_, _, rescales_pair0.up_computesLane⟩, ⟨_, _, rescales_pair0.down_computesLane⟩,
    ⟨_, _, rescales_pair1.up_computesLane⟩, ⟨_, _, rescales_pair1.down_computesLane⟩,
    ⟨_, _, rescales_pair2.up_computesLane⟩, ⟨_, _, rescales_pair2.down_computesLane⟩,
    ⟨_, _, rescales_pair3.up_computesLane⟩, ⟨_, _, rescales_pair3.down_computesLane⟩,
    ⟨_, _, rescales_pair4.up_computesLane⟩, ⟨_, _, rescales_pair4.down_computesLane⟩,
    ⟨_, _, rescales_pair5.up_computesLane⟩, ⟨_, _, rescales_pair5.down_computesLane⟩,
    ⟨_, _, rescales_pair6.up_computesLane⟩, ⟨_, _, rescales_pair6.down_computesLane⟩,
    ⟨_, _, rescales_pair7.up_computesLane⟩, ⟨_, _, rescales_pair7.down_computesLane⟩,
    ⟨_, _, rescales_pair8.up_computesLane⟩, ⟨_, _, rescales_pair8.down_computesLane⟩,
    ⟨_, _, rescales_pair9.up_computesLane⟩, ⟨_, _, rescales_pair9.down_computesLane⟩,
    ⟨_, _, rescales_pair10.up_computesLane⟩, ⟨_, _, rescales_pair10.down_computesLane⟩,
    ⟨_, _, rescales_pair11.up_computesLane⟩, ⟨_, _, rescales_pair11.down_computesLane⟩,
    ⟨_, _, computes_gdG8L8.computesLane_of_rom (by decide) rfl⟩,
    ⟨_, _, computes_gdG8L16.computesLane_of_rom (by decide) rfl⟩,
    ⟨_, _, computes_gdG16L16.computesLane_of_monotoneOnto (by decide) gammaDecode16_monotoneOnto⟩,
    ⟨_, _, computes_geL8G8.computesLane_of_rom (by decide) rfl⟩,
    ⟨_, _, computes_geL16G8.computesLane_of_monotoneOnto (by decide) gammaEncode16to8_monotoneOnto⟩,
    ⟨_, _, computes_geL16G16.computesLane_of_monotoneOnto (by decide) gammaEncode16_monotoneOnto⟩⟩

/-! Both formats. -/

/-- An instruction outside its contract answers a draw, one within it a response that is a function of the gamma mode. -/
structure AnswersByContract (i : Instr) : Prop where
  violates : i.wellFormed = false → ∀ s, exec i s = .next (s.respondAny i)
  answers : i.wellFormed = true → ∃ r : GammaMode → Response, ∀ s, exec i s = .next (answered s (r s.gammaMode))

theorem Computes.answersByContract {mk : Ignored → Lane → Instr} {k : ChannelKind} {f : GammaMode → Lane → Nat}
    (C : Computes mk k f) (ign : Ignored) (x : Lane) : AnswersByContract (mk ign x) where
  violates h s := by
    rw [C.wellFormed] at h
    rw [C.exec_eq, answerScalar_violation h]
  answers h := by
    rw [C.wellFormed, kindHolds_iff] at h
    exact ⟨fun m => scalarResponse (f m x), fun s => C.answers h ign s⟩

theorem ComputesTuple.answersByContract {mk : Lane → Lane → Lane → Instr} {valid : Nat → Nat → Nat → Prop}
    {g : Nat → Nat → Nat → Tuple} (C : ComputesTuple mk valid g)
    (hvalid : ∀ a b c, (mk a b c).wellFormed = true ↔ valid a.toNat b.toNat c.toNat) (a b c : Lane) :
    AnswersByContract (mk a b c) where
  violates h s := C.violates a b c s (by rw [← hvalid, h]; exact Bool.false_ne_true)
  answers h := ⟨fun _ => _, fun s => C.answers a b c s ((hvalid a b c).1 h)⟩

theorem wellFormed_of_mem_hsvInstrs : ∀ q ∈ hsvInstrs, ∀ h s v, (q.1 h s v).wellFormed = hsvHolds q.2.1 h s v := by
  simp only [hsvInstrs, List.forall_mem_cons, List.not_mem_nil, false_imp_iff, implies_true, and_true]
  and_intros
  all_goals exact fun _ _ _ => rfl

theorem wellFormed_of_mem_rgbInstrs : ∀ q ∈ rgbInstrs, ∀ r g b, (q.1 r g b).wellFormed = rgbHolds q.2.2 r g b := by
  simp only [rgbInstrs, List.forall_mem_cons, List.not_mem_nil, false_imp_iff, implies_true, and_true]
  and_intros
  all_goals exact fun _ _ _ => rfl

theorem answersByContract : ∀ i : Instr, AnswersByContract i := by
  refine forall_instr_of_formats (fun mk hmk ign x => ?scalar) (fun mk hmk a b c => ?tuple)
  case scalar =>
    obtain ⟨k, f, C⟩ := computesLane_of_mem_scalarInstrs mk hmk
    exact C.computes.answersByContract ign x
  case tuple =>
    rw [tupleInstrs, List.mem_append, List.mem_map, List.mem_map] at hmk
    rcases hmk with ⟨q, hq, rfl⟩ | ⟨q, hq, rfl⟩
    · exact (computesTuple_of_mem_hsvInstrs hq).answersByContract
        (fun h s v => by rw [wellFormed_of_mem_hsvInstrs q hq, hsvHolds_iff_nominal]) a b c
    · exact (computesTuple_of_mem_rgbInstrs hq).answersByContract
        (fun r g b => by rw [wellFormed_of_mem_rgbInstrs q hq, rgbHolds_iff, NominalRgb]) a b c

/-- Whatever the operands, an instruction answers once; it draws exactly when they break the contract. -/
theorem exec_answers (i : Instr) (s : State) :
    (i.wellFormed = true ∧ ∃ r, exec i s = .next (answered s r)) ∨
      (i.wellFormed = false ∧ ∃ r, exec i s = .next (violated s r)) := by
  cases h : i.wellFormed with
  | true =>
    obtain ⟨r, hr⟩ := (answersByContract i).answers h
    exact .inl ⟨rfl, _, hr s⟩
  | false => exact .inr ⟨rfl, _, (answersByContract i).violates h s⟩

/-! The listed violations (60_exceptions.md R262). -/

theorem kindHolds_eq_false_iff (k : ChannelKind) (x : Lane) : kindHolds k x = false ↔ kindMax k < x.toNat := by
  rw [← Bool.not_eq_true, kindHolds_iff, Nat.not_le]

theorem hsvHolds_eq_false_iff (f : HsvFormat) (h s v : Lane) :
    hsvHolds f h s v = false ↔ hWrap f - 1 < h.toNat ∨ maxSv f < s.toNat ∨ maxSv f < v.toNat := by
  rw [← Bool.not_eq_true, hsvHolds_iff_nominal, NominalHsv]
  omega

theorem rgbHolds_eq_false_iff (w : RgbFormat) (r g b : Lane) :
    rgbHolds w r g b = false ↔ maxRgb w < r.toNat ∨ maxRgb w < g.toNat ∨ maxRgb w < b.toNat := by
  rw [← Bool.not_eq_true, rgbHolds_iff]
  omega

theorem lane_le (x : Lane) : x.toNat ≤ 65535 := Nat.le_of_lt_succ x.isLt

/-- Every operand of a 16-bit kind is nominal, so no listed operand is missed. -/
theorem fullWidth_violation_iff {k : ChannelKind} (hk : kindMax k = 65535) (x : Lane) : kindHolds k x = false ↔ False := by
  rw [kindHolds_eq_false_iff, hk, iff_false, Nat.not_lt]
  exact lane_le x

theorem wellFormed_eq_false_iff_violates (i : Instr) : i.wellFormed = false ↔ Violates i := by
  cases i with
  | rsU5U8 ign x | rsU8U5 ign x | rsU5U16 ign x | rsU6U8 ign x | rsU8U6 ign x | rsU6U16 ign x | rsU8U8 ign x
  | rsU8U8I ign x | rsU8U16 ign x | rsPctU8 ign x | rsU8Pct ign x | rsPctU16 ign x | rsA8Deg ign x | rsDegA8 ign x
  | rsDegA16 ign x | rsA8A16 ign x | gdG8L8 ign x | gdG8L16 ign x | geL8G8 ign x => exact kindHolds_eq_false_iff _ x
  | rsU16U5 ign x | rsU16U6 ign x | rsU16U8 ign x | rsU16U16 ign x | rsU16U16I ign x | rsU16Pct ign x | rsA16Deg ign x
  | rsA16A8 ign x | gdG16L16 ign x | geL16G8 ign x | geL16G16 ign x => exact fullWidth_violation_iff rfl x
  | h2rH888R8 h s v | h2rH888R16 h s v | h2rHdecR8 h s v | h2rHdecR16 h s v => exact hsvHolds_eq_false_iff _ h s v
  | h2rH32R8 h s v | h2rH32R16 h s v =>
    exact (hsvHolds_eq_false_iff _ h s v).trans (or_iff_right (Nat.not_lt_of_le (lane_le h)))
  | h2rH48R8 h s v | h2rH48R16 h s v =>
    have hh := lane_le h
    have hs := lane_le s
    have hv := lane_le v
    exact (hsvHolds_eq_false_iff _ h s v).trans (iff_of_false (by simp only [hWrap, maxSv]; omega) not_false)
  | r2hR8H888 r g b | r2hR8Hdec r g b | r2hR8H32 r g b | r2hR8H48 r g b => exact rgbHolds_eq_false_iff _ r g b
  | r2hR16H888 r g b | r2hR16Hdec r g b | r2hR16H32 r g b | r2hR16H48 r g b =>
    have hr := lane_le r
    have hg := lane_le g
    have hb := lane_le b
    exact (rgbHolds_eq_false_iff _ r g b).trans (iff_of_false (by simp only [maxRgb]; omega) not_false)

/-! Zero. -/

/-- Value 0 is black, whatever hue and saturation (43_hsv_to_rgb.md R186). -/
theorem hueSectorToRgb_black {msv : Nat} (hmsv : 0 < msv) (hw mrgb h s : Nat) :
    hueSectorToRgb hw msv mrgb h s 0 = ⟨0, 0, 0⟩ := by
  have rounds : rhu 0 msv = 0 := rhu_mul_right 0 hmsv
  simp only [hueSectorToRgb, rangeHsv, Nat.zero_mul, Nat.zero_div, Nat.mul_zero, Nat.sub_zero, rounds, assignSector_gray]

theorem hsvInstrs_answer_black {q : (Lane → Lane → Lane → Instr) × HsvFormat × RgbFormat} (hq : q ∈ hsvInstrs)
    {h sat : Lane} (hh : h.toNat < hWrap q.2.1) (hsat : sat.toNat ≤ maxSv q.2.1) (s : State) :
    exec (q.1 h sat 0) s = .next (answered s 0) := by
  have valid : NominalHsv q.2.1 h.toNat sat.toNat (0 : Lane).toNat := ⟨Nat.le_sub_one_of_lt hh, hsat, Nat.zero_le _⟩
  have black : hsvToRgb q.2.1 q.2.2 h.toNat sat.toNat (0 : Lane).toNat = ⟨0, 0, 0⟩ :=
    hueSectorToRgb_black (maxSv_pos _) _ _ _ _
  rw [(computesTuple_of_mem_hsvInstrs hq).answers h sat 0 s valid, black]
  rfl

theorem rgbInstrs_answer_black {q : (Lane → Lane → Lane → Instr) × HsvFormat × RgbFormat} (hq : q ∈ rgbInstrs) (s : State) :
    exec (q.1 0 0 0) s = .next (answered s 0) := by
  obtain ⟨i, hi⟩ := List.getElem?_of_mem hq
  have rounds : rhu ((0 : Lane).toNat * maxSv q.2.1) (maxRgb q.2.2) = 0 := by
    rw [show (0 : Lane).toNat = 0 from rfl, Nat.zero_mul]
    exact rhu_mul_right 0 (maxRgb_pos _)
  rw [rgbInstrs_answer_gray hi (Nat.zero_le _) s, rounds]
  rfl

end Sys2Proof.Machine
end

section
/-! PROOF. What every instruction answers (60_exceptions.md R262; 20_memory.md R47; 30_encoding.md R60, R61, R67;
10_state.md R32). -/

namespace Sys2Proof.Machine

open Sys2Proof.Claims

/-- Settles O37. One response either way, with a draw exactly outside the contract. -/
theorem everyCommandIsAnsweredWithOneResponse : Obligations.EveryCommandIsAnsweredWithOneResponse := by
  intro i s
  rcases exec_answers i s with ⟨hwf, r, hr⟩ | ⟨hwf, r, hr⟩
  · exact ⟨r, 0, hr, Nat.zero_le 1, by simp [hwf]⟩
  · exact ⟨r, 1, hr, le_rfl, by simp [hwf]⟩

/-- Settles O39. The listed operands are those above the largest nominal code of their kind or format. -/
theorem contractViolationsAreTheListedOperands : Obligations.ContractViolationsAreTheListedOperands := by
  refine ⟨wellFormed_eq_false_iff_violates, fun i s hviolates => ?_, fun i s hkept => ?_⟩
  · have hwf := (wellFormed_eq_false_iff_violates i).2 hviolates
    exact ⟨_, (answersByContract i).violates hwf s⟩
  · rw [← wellFormed_eq_false_iff_violates, Bool.not_eq_false] at hkept
    obtain ⟨r, hr⟩ := (answersByContract i).answers hkept
    exact ⟨_, hr s⟩

/-- Settles O40. Beside the command, only the gamma mode has a part in a response. -/
theorem responseDependsOnTheCommandAlone : Obligations.ResponseDependsOnTheCommandAlone := by
  intro i hwf s u hmode
  obtain ⟨r, hr⟩ := (answersByContract i).answers hwf
  exact ⟨r s.gammaMode, hr s, hmode ▸ hr u⟩

/-- Settles O41. Contract and result of a format S instruction are functions of the operand alone. -/
theorem ignoredBitsChangeNothing : Obligations.IgnoredBitsChangeNothing := by
  refine ⟨fun mk hmk s a b x => ?ignored, fun s ign => ?whole, fun mk hmk ign x => ?carried, rfl⟩
  case ignored =>
    obtain ⟨k, f, C⟩ := computesLane_of_mem_scalarInstrs mk hmk
    refine ⟨by rw [C.computes.wellFormed, C.computes.wellFormed], fun hwf => ?_⟩
    rw [C.computes.wellFormed, kindHolds_iff] at hwf
    rw [C.answers hwf, C.answers hwf]
  case whole => exact ⟨_, (answersByContract (.rsU5U8 ign 0x0120)).violates rfl s⟩
  case carried =>
    rw [encode_of_mem_scalarInstrs mk hmk]
    exact ⟨ignoredField_wordS _ ign x, lane0_wordS _ ign x⟩

/-- Settles O42. The result is below `2 ^ 16`, so its zero extension leaves lanes 1 and 2 empty. -/
theorem scalarResponsesFillLaneZeroOnly : Obligations.ScalarResponsesFillLaneZeroOnly := by
  intro mk hmk s ign x hwf
  obtain ⟨k, f, C⟩ := computesLane_of_mem_scalarInstrs mk hmk
  rw [C.computes.wellFormed, kindHolds_iff] at hwf
  have hlt := C.lt s.gammaMode x hwf
  refine ⟨_, hlt, C.answers hwf ign s, BitVec.eq_of_toNat_eq ?_⟩
  rw [BitVec.extractLsb'_toNat, BitVec.toNat_ofNat, Nat.mod_eq_of_lt (hlt.trans (by decide)), Nat.shiftRight_eq_div_pow,
    Nat.div_eq_of_lt hlt]
  rfl

/-- Settles O50. Scalar results are 0 at 0; a colour of value 0 is black, and black is a gray of value 0. -/
theorem zeroMapsToZero : Obligations.ZeroMapsToZero := by
  intro s
  refine ⟨fun mk hmk ign => ?scalar, fun q hq => ?hsv, fun q hq => rgbInstrs_answer_black hq s, ?green⟩
  case scalar =>
    obtain ⟨k, f, C⟩ := computesLane_of_mem_scalarInstrs mk hmk
    rw [C.answers (Nat.zero_le _), C.zero]
    rfl
  case hsv =>
    exact ⟨hsvInstrs_answer_black (h := 0) (sat := 0) hq (hWrap_pos _) (Nat.zero_le _) s,
      fun h sat hh hsat => hsvInstrs_answer_black hq hh hsat s⟩
  case green =>
    have C := computesTuple_of_mem_rgbInstrs (q := (.r2hR8H888, .hsv888, .rgb8)) (List.mem_of_getElem? (i := 0) rfl)
    exact C.answers 0 255 0 s (by unfold NominalRgb; decide)

end Sys2Proof.Machine
end

section
/-! SUPPORT. What a step does: the host's event, then either the queue ages by one step or its oldest command is answered
(10_state.md R27, R28; 70_reset_and_hazards.md R280); and what the caller contract adds to that (70_reset_and_hazards.md
R283). -/

namespace Sys2Proof.Machine

open Sys2Proof.Claims

/-! The host's event. -/

@[simp] theorem takeEvent_hasR2H (s : State) : (takeEvent s).hasR2H = s.hasR2H := by
  obtain ⟨h, -, -, -, -⟩ := takeEvent_frame s
  exact h

@[simp] theorem takeEvent_gammaMode (s : State) : (takeEvent s).gammaMode = s.gammaMode := by
  obtain ⟨-, h, -, -, -⟩ := takeEvent_frame s
  exact h

@[simp] theorem takeEvent_responses (s : State) : (takeEvent s).responses = s.responses := by
  obtain ⟨-, -, h, -, -⟩ := takeEvent_frame s
  exact h

@[simp] theorem takeEvent_draws (s : State) : (takeEvent s).draws = s.draws := by
  obtain ⟨-, -, -, h, -⟩ := takeEvent_frame s
  exact h

@[simp] theorem takeEvent_host (s : State) : (takeEvent s).host = s.host.tail := by
  obtain ⟨-, -, -, -, h⟩ := takeEvent_frame s
  exact h

section
variable {s : State} {w : Command} {rest : List HostEvent}

theorem takeEvent_of_nil (h : s.host = []) : takeEvent s = s := by simp [takeEvent, h]

theorem takeEvent_of_idle (h : s.host = .idle :: rest) : takeEvent s = { s with host := rest } := by simp [takeEvent, h]

theorem takeEvent_of_present (h : s.host = .present w :: rest) : takeEvent s = { s with host := rest }.accept w := by
  simp [takeEvent, h]

theorem takeEvent_inFlight_of_present (h : s.host = .present w :: rest) :
    (takeEvent s).inFlight = s.inFlight ++ [⟨w, s.latencies.headD 0⟩] := by
  rw [takeEvent_of_present h]
  rfl

theorem takeEvent_of_reset (h : s.host = .reset :: rest) : takeEvent s = { s with host := rest }.resetEvent := by
  simp [takeEvent, h]

end

/-- Without a reset the commands in flight stay, and a command presented joins behind them. -/
theorem takeEvent_inFlight_append {s : State} (h : HostEvent.reset ∉ s.host) :
    ∃ q, (takeEvent s).inFlight = s.inFlight ++ q := by
  cases hhost : s.host with
  | nil => exact ⟨[], by simp [takeEvent_of_nil hhost]⟩
  | cons e rest =>
    cases e with
    | idle => exact ⟨[], by simp [takeEvent_of_idle hhost]⟩
    | present w => exact ⟨_, takeEvent_inFlight_of_present hhost⟩
    | reset => simp [hhost] at h

/-! The step. -/

/-- The state with every command in flight one step older and `rsp_valid` 0. -/
def State.aged (s : State) : State := { s with inFlight := s.inFlight.map PendingCommand.age, rspPort := none }

/-- The state without its oldest command, the others one step older and `rsp_valid` 0. -/
def State.dequeued (s : State) : State :=
  { s with inFlight := s.inFlight.tail.map PendingCommand.age, rspPort := none }

@[simp] theorem State.aged_hasR2H (s : State) : s.aged.hasR2H = s.hasR2H := rfl
@[simp] theorem State.aged_gammaMode (s : State) : s.aged.gammaMode = s.gammaMode := rfl
@[simp] theorem State.aged_latencies (s : State) : s.aged.latencies = s.latencies := rfl
@[simp] theorem State.aged_host (s : State) : s.aged.host = s.host := rfl
@[simp] theorem State.aged_inFlight (s : State) : s.aged.inFlight = s.inFlight.map PendingCommand.age := rfl
@[simp] theorem State.aged_rspPort (s : State) : s.aged.rspPort = none := rfl
@[simp] theorem State.aged_responses (s : State) : s.aged.responses = s.responses := rfl
@[simp] theorem State.aged_draws (s : State) : s.aged.draws = s.draws := rfl

@[simp] theorem State.dequeued_hasR2H (s : State) : s.dequeued.hasR2H = s.hasR2H := rfl
@[simp] theorem State.dequeued_gammaMode (s : State) : s.dequeued.gammaMode = s.gammaMode := rfl
@[simp] theorem State.dequeued_latencies (s : State) : s.dequeued.latencies = s.latencies := rfl
@[simp] theorem State.dequeued_host (s : State) : s.dequeued.host = s.host := rfl
@[simp] theorem State.dequeued_inFlight (s : State) : s.dequeued.inFlight = s.inFlight.tail.map PendingCommand.age := rfl
@[simp] theorem State.dequeued_responses (s : State) : s.dequeued.responses = s.responses := rfl
@[simp] theorem State.dequeued_draws (s : State) : s.dequeued.draws = s.draws := rfl

section
variable (s : State) (r : Response)

@[simp] theorem answered_hasR2H : (answered s r).hasR2H = s.hasR2H := rfl
@[simp] theorem answered_gammaMode : (answered s r).gammaMode = s.gammaMode := rfl
@[simp] theorem answered_latencies : (answered s r).latencies = s.latencies := rfl
@[simp] theorem answered_host : (answered s r).host = s.host := rfl
@[simp] theorem answered_inFlight : (answered s r).inFlight = s.inFlight := rfl
@[simp] theorem answered_rspPort : (answered s r).rspPort = some r := rfl
@[simp] theorem answered_responses : (answered s r).responses = s.responses ++ [r] := rfl
@[simp] theorem answered_draws : (answered s r).draws = s.draws := rfl

@[simp] theorem violated_hasR2H : (violated s r).hasR2H = s.hasR2H := rfl
@[simp] theorem violated_gammaMode : (violated s r).gammaMode = s.gammaMode := rfl
@[simp] theorem violated_host : (violated s r).host = s.host := rfl
@[simp] theorem violated_rspPort : (violated s r).rspPort = some r := rfl
@[simp] theorem violated_responses : (violated s r).responses = s.responses ++ [r] := rfl
@[simp] theorem violated_draws : (violated s r).draws = s.draws + 1 := rfl

end

/-- Nothing in the queue is due: it is empty or its oldest command waits. -/
def NothingDue (queue : List PendingCommand) : Prop := ∀ p ∈ queue.head?, p.wait ≠ 0

theorem nothingDue_nil : NothingDue [] := by simp [NothingDue]

theorem nothingDue_cons {p : PendingCommand} {rest : List PendingCommand} : NothingDue (p :: rest) ↔ p.wait ≠ 0 := by
  simp [NothingDue]

theorem nothingDue_or_due (queue : List PendingCommand) :
    NothingDue queue ∨ ∃ p rest, queue = p :: rest ∧ p.wait = 0 := by
  cases queue with
  | nil => exact .inl nothingDue_nil
  | cons p rest =>
    by_cases hwait : p.wait = 0
    · exact .inr ⟨p, rest, rfl, hwait⟩
    · exact .inl (nothingDue_cons.2 hwait)

theorem step_of_nothingDue {s : State} (h : NothingDue (takeEvent s).inFlight) : step s = .next (takeEvent s).aged := by
  rcases oldestDue_cases (takeEvent s) with ⟨hnil, hq⟩ | ⟨p, rest, hcons, -, hq⟩ | ⟨p, rest, hcons, hdue, -⟩
  · rw [step, fetch, hq, State.aged, hnil]
    rfl
  · rw [step, fetch, hq, State.aged, hcons]
  · rw [hcons] at h
    exact absurd hdue (nothingDue_cons.1 h)

theorem step_of_due {s : State} {p : PendingCommand} {rest : List PendingCommand} (h : (takeEvent s).inFlight = p :: rest)
    (hdue : p.wait = 0) : step s = runWord p.word (takeEvent s).dequeued := by
  simp [step, fetch, oldestDue, State.dequeued, h, hdue]

theorem runWord_of_decode {w : Command} {s : State} {i : Instr} (h : decode s.hasR2H w = .ok i) :
    runWord w s = exec i s := by
  rw [runWord, h]

theorem runWord_of_reserved {w : Command} {s : State} {why : ReservedReason} (h : decode s.hasR2H w = .error why) :
    runWord w s = .refused (.reservedEncoding why) := by
  rw [runWord, h]

/-- A step that goes on either answers nothing or gives one response, with or without a draw. -/
theorem step_next_cases {s t : State} (h : step s = .next t) :
    t = (takeEvent s).aged ∨ ∃ r, t = answered (takeEvent s).dequeued r ∨ t = violated (takeEvent s).dequeued r := by
  rcases nothingDue_or_due (takeEvent s).inFlight with hnone | ⟨p, rest, hcons, hdue⟩
  · rw [step_of_nothingDue hnone] at h
    exact .inl (Host.Outcome.next.inj h).symm
  · rw [step_of_due hcons hdue] at h
    cases hdecode : decode (takeEvent s).dequeued.hasR2H p.word with
    | error why =>
      rw [runWord_of_reserved hdecode] at h
      cases h
    | ok i =>
      rw [runWord_of_decode hdecode] at h
      rcases exec_answers i (takeEvent s).dequeued with ⟨-, r, hr⟩ | ⟨-, r, hr⟩
      · exact .inr ⟨r, .inl (Host.Outcome.next.inj (h.symm.trans hr))⟩
      · exact .inr ⟨r, .inr (Host.Outcome.next.inj (h.symm.trans hr))⟩

theorem step_responses {s t : State} (h : step s = .next t) : t.responses = s.responses ++ t.rspPort.toList := by
  rcases step_next_cases h with rfl | ⟨r, rfl | rfl⟩ <;> simp

/-- A port that was written together with the last response, or not at all, shows the last response. -/
theorem portShowsLast_of_responses {t : State} {before : List Response} (h : t.responses = before ++ t.rspPort.toList) :
    t.portShowsLast = true := by
  unfold State.portShowsLast
  cases hport : t.rspPort with
  | none => rfl
  | some r => simp [h, hport]

/-! The caller contract. -/

theorem contractKept_iff {s : State} : s.contractKept = true ↔
    (∀ p ∈ s.inFlight, contractWord s.hasR2H p.word = true) ∧ ∀ e ∈ s.host, contractEvent s.hasR2H e = true := by
  simp only [State.contractKept, Bool.and_eq_true, List.all_eq_true]

theorem takeEvent_contractKept {s : State} (h : s.contractKept = true) : (takeEvent s).contractKept = true := by
  rw [contractKept_iff] at h ⊢
  obtain ⟨hqueue, hevents⟩ := h
  rw [takeEvent_hasR2H, takeEvent_host]
  refine ⟨?_, fun e he => hevents e (List.mem_of_mem_tail he)⟩
  cases hhost : s.host with
  | nil => rwa [takeEvent_of_nil hhost]
  | cons e rest =>
    cases e with
    | idle => rwa [takeEvent_of_idle hhost]
    | reset => simp [takeEvent_of_reset hhost]
    | present w =>
      have presented : contractWord s.hasR2H w = true := hevents (.present w) (hhost ▸ List.mem_cons_self)
      simpa [takeEvent_of_present hhost, or_imp, forall_and] using ⟨hqueue, presented⟩

theorem aged_contractKept {s : State} (h : s.contractKept = true) : s.aged.contractKept = true := by
  rw [contractKept_iff] at h ⊢
  simpa using h

theorem dequeued_contractKept {s : State} (h : s.contractKept = true) : s.dequeued.contractKept = true := by
  rw [contractKept_iff] at h ⊢
  obtain ⟨hqueue, hevents⟩ := h
  refine ⟨fun p hp => ?_, hevents⟩
  obtain ⟨q, hq, rfl⟩ := List.mem_map.1 hp
  exact hqueue q (List.mem_of_mem_tail hq)

/-- A contract-keeping word gets the response of its command, from every state of the same CORE. -/
theorem runWord_of_contractWord {s u : State} {w : Command} (hw : contractWord s.hasR2H w = true)
    (hunit : u.hasR2H = s.hasR2H) (hmode : u.gammaMode = s.gammaMode) :
    runWord w u = .next (answered u (commandResponse s w)) := by
  unfold contractWord at hw
  cases hdecode : decode s.hasR2H w with
  | error why => simp [hdecode] at hw
  | ok i =>
    rw [hdecode] at hw
    obtain ⟨r, hr⟩ := (answersByContract i).answers hw
    have response : commandResponse s w = r s.gammaMode := by
      simp only [commandResponse, hdecode, hr, answered_rspPort, Option.getD_some]
    rw [runWord_of_decode (hunit ▸ hdecode), hr, hmode, response]

/-- Under the contract a step ages the queue or answers its oldest command with that command's response, as `base`, a state
of the same CORE, would. -/
theorem step_of_contractKept {base s : State} (h : s.contractKept = true) (hunit : s.hasR2H = base.hasR2H)
    (hmode : s.gammaMode = base.gammaMode) :
    (NothingDue (takeEvent s).inFlight ∧ step s = .next (takeEvent s).aged) ∨
      ∃ p rest, (takeEvent s).inFlight = p :: rest ∧
        step s = .next (answered (takeEvent s).dequeued (commandResponse base p.word)) := by
  rcases nothingDue_or_due (takeEvent s).inFlight with hnone | ⟨p, rest, hcons, hdue⟩
  · exact .inl ⟨hnone, step_of_nothingDue hnone⟩
  · obtain ⟨hqueue, -⟩ := contractKept_iff.1 (takeEvent_contractKept h)
    have hw : contractWord base.hasR2H p.word = true := by
      rw [← hunit, ← takeEvent_hasR2H]
      exact hqueue p (hcons ▸ List.mem_cons_self)
    refine .inr ⟨p, rest, hcons, ?_⟩
    rw [step_of_due hcons hdue]
    exact runWord_of_contractWord hw (by simpa using hunit) (by simpa using hmode)

/-! Runs. -/

theorem run_succ_of_next {M : Host.Core} {s t : M.State} (h : M.step s = .next t) (k : Nat) :
    M.run (k + 1) s = M.run k t := by
  rw [Host.Core.run, h]

/-- A run of one step more that goes on begins with a step that does. -/
theorem exists_next_of_run_succ {M : Host.Core} {s t : M.State} {k : Nat} (h : M.run (k + 1) s = .next t) :
    ∃ u, M.step s = .next u ∧ M.run k u = .next t := by
  rw [Host.Core.run] at h
  cases hstep : M.step s with
  | next u => exact ⟨u, rfl, by rwa [hstep] at h⟩
  | fault r =>
    rw [hstep] at h
    cases h
  | refused r =>
    rw [hstep] at h
    cases h

theorem run_succ_of_step {s t : State} (h : step s = .next t) (k : Nat) :
    Host.Core.run Sys2Proof.core (k + 1) s = Host.Core.run Sys2Proof.core k t :=
  run_succ_of_next (M := Sys2Proof.core) h k

theorem exists_step_of_run_succ {s t : State} {k : Nat} (h : Host.Core.run Sys2Proof.core (k + 1) s = .next t) :
    ∃ u, step s = .next u ∧ Host.Core.run Sys2Proof.core k u = .next t :=
  exists_next_of_run_succ (M := Sys2Proof.core) h

/-- What every step keeps, going on, every run keeps, going on. -/
theorem run_keeps {P : State → Prop} (hstep : ∀ s, P s → ∃ t, step s = .next t ∧ P t) (k : Nat) {s : State} (h : P s) :
    ∃ t, Host.Core.run Sys2Proof.core k s = .next t ∧ P t := by
  induction k generalizing s with
  | zero => exact ⟨s, rfl, h⟩
  | succ k ih =>
    obtain ⟨u, hu, hPu⟩ := hstep s h
    obtain ⟨t, ht, hPt⟩ := ih hPu
    exact ⟨t, (run_succ_of_step hu k).trans ht, hPt⟩

/-- The observation only grows. -/
theorem run_responses_grow {s t : State} {k : Nat} (h : Host.Core.run Sys2Proof.core k s = .next t) :
    s.responses <+: t.responses := by
  induction k generalizing s with
  | zero =>
    cases Host.Outcome.next.inj h
    exact ⟨[], List.append_nil _⟩
  | succ k ih =>
    obtain ⟨u, hu, hrun⟩ := exists_step_of_run_succ h
    have grows : s.responses <+: u.responses := ⟨u.rspPort.toList, (step_responses hu).symm⟩
    exact grows.trans (ih hrun)

/-! Reset (70_reset_and_hazards.md R280). -/

theorem step_of_reset {s : State} {rest : List HostEvent} (h : s.host = .reset :: rest) :
    step s = .next { s with host := rest, inFlight := [], rspPort := none } := by
  rw [step_of_nothingDue (by rw [takeEvent_of_reset h]; exact nothingDue_nil), takeEvent_of_reset h]
  rfl

theorem run_idle (k : Nat) {s : State} {n : Nat} {rest : List HostEvent} (hqueue : s.inFlight = [])
    (hport : s.rspPort = none) (hhost : s.host = List.replicate n .idle ++ rest) (hk : k ≤ n) :
    Host.Core.run Sys2Proof.core k s = .next { s with host := List.replicate (n - k) .idle ++ rest } := by
  induction k generalizing s n with
  | zero =>
    rw [Nat.sub_zero, ← hhost]
    rfl
  | succ k ih =>
    obtain ⟨n, rfl⟩ := Nat.exists_eq_add_one_of_ne_zero (Nat.ne_zero_of_lt hk)
    rw [List.replicate_succ, List.cons_append] at hhost
    have quiet : NothingDue (takeEvent s).inFlight := by
      rw [takeEvent_of_idle hhost, hqueue]
      exact nothingDue_nil
    have next : (takeEvent s).aged = { s with host := List.replicate n .idle ++ rest } := by
      rw [takeEvent_of_idle hhost, State.aged, hqueue, hport]
      rfl
    rw [Nat.add_sub_add_right]
    exact (run_succ_of_step (next ▸ step_of_nothingDue quiet) k).trans
      (ih (s := { s with host := List.replicate n .idle ++ rest }) hqueue hport rfl (Nat.le_of_succ_le_succ hk))

/-- While the observation does not grow, `rsp_valid` stays 0. -/
theorem run_quiet {s t : State} {k : Nat} (hport : s.rspPort = none) (h : Host.Core.run Sys2Proof.core k s = .next t)
    (hsame : t.responses = s.responses) : t.rspPort = none := by
  induction k generalizing s with
  | zero =>
    cases Host.Outcome.next.inj h
    exact hport
  | succ k ih =>
    obtain ⟨u, hu, hrun⟩ := exists_step_of_run_succ h
    have grows := step_responses hu
    have no_response : u.rspPort.toList = [] := by
      have le := (run_responses_grow hrun).length_le
      rw [hsame, grows, List.length_append] at le
      exact List.eq_nil_of_length_eq_zero (by omega)
    rw [no_response, List.append_nil] at grows
    exact ih (Option.toList_eq_nil_iff.1 no_response) hrun (hsame.trans grows.symm)

/-! The delay of the oldest command (70_reset_and_hazards.md R286). -/

/-- The oldest command, with `n` steps to wait, is answered after them. -/
theorem run_answers_oldest {base : State} {w : Command} (hw : contractWord base.hasR2H w = true) (n : Nat) {s : State}
    {behind : List PendingCommand} (hqueue : (takeEvent s).inFlight = ⟨w, n⟩ :: behind)
    (hreset : HostEvent.reset ∉ s.host.tail) (hunit : s.hasR2H = base.hasR2H) (hmode : s.gammaMode = base.gammaMode) :
    (∀ k, k < n → ∃ t, Host.Core.run Sys2Proof.core (k + 1) s = .next t ∧ t.rspPort = none ∧ t.responses = s.responses) ∧
    (∃ t, Host.Core.run Sys2Proof.core (n + 1) s = .next t ∧ t.rspPort = some (commandResponse base w) ∧
      t.responses = s.responses ++ [commandResponse base w]) := by
  induction n generalizing s behind with
  | zero =>
    have answers : step s = .next (answered (takeEvent s).dequeued (commandResponse base w)) := by
      rw [step_of_due hqueue rfl]
      exact runWord_of_contractWord hw (by simpa using hunit) (by simpa using hmode)
    exact ⟨fun k hk => absurd hk k.not_lt_zero, _, run_succ_of_step answers 0, rfl, by simp⟩
  | succ n ih =>
    have waits : step s = .next (takeEvent s).aged :=
      step_of_nothingDue (by rw [hqueue, nothingDue_cons]; exact n.succ_ne_zero)
    have hhost : (takeEvent s).aged.host = s.host.tail := takeEvent_host s
    obtain ⟨q, hq⟩ := takeEvent_inFlight_append (s := (takeEvent s).aged) (hhost ▸ hreset)
    rw [State.aged_inFlight, hqueue, List.map_cons, List.cons_append] at hq
    obtain ⟨before, after⟩ := ih (s := (takeEvent s).aged) hq (fun hmem => hreset (List.mem_of_mem_tail (hhost ▸ hmem)))
      (by simpa using hunit) (by simpa using hmode)
    simp only [State.aged_responses, takeEvent_responses] at before after
    refine ⟨fun k hk => ?_, ?_⟩
    · rw [run_succ_of_step waits]
      cases k with
      | zero => exact ⟨_, rfl, rfl, by simp⟩
      | succ k => exact before k (Nat.lt_of_succ_lt_succ hk)
    · rwa [run_succ_of_step waits]

/-! All commands in flight and to come (20_memory.md R47; 70_reset_and_hazards.md R286, R287). -/

/-- The words still to be answered, in command order. -/
def State.owed (s : State) : List Command := s.inFlight.map (·.word) ++ s.host.filterMap presentedWord

/-- A bound of the steps to the last answer: two for each event, one for each command in flight, and all delays. -/
def State.workLeft (s : State) : Nat := 2 * s.host.length + s.latencies.sum + (s.inFlight.map (·.wait + 1)).sum

theorem takeEvent_owed {s : State} (h : HostEvent.reset ∉ s.host) : (takeEvent s).owed = s.owed := by
  cases hhost : s.host with
  | nil => rw [takeEvent_of_nil hhost]
  | cons e rest =>
    cases e with
    | idle => rw [takeEvent_of_idle hhost, State.owed, State.owed, hhost, List.filterMap_cons_none rfl]
    | present w =>
      rw [takeEvent_of_present hhost, State.owed, State.owed, hhost,
        List.filterMap_cons_some (f := presentedWord) (b := w) rfl]
      simp
    | reset => simp [hhost] at h

theorem aged_owed (s : State) : s.aged.owed = s.owed := by simp [State.owed]

theorem owed_of_cons {s : State} {p : PendingCommand} {rest : List PendingCommand} (h : s.inFlight = p :: rest) :
    s.owed = p.word :: s.dequeued.owed := by simp [State.owed, h]

/-- An event is work done, also where it gives the queue a command with its delay. -/
theorem takeEvent_workLeft_lt {s : State} (h : s.host ≠ []) : (takeEvent s).workLeft < s.workLeft := by
  cases hhost : s.host with
  | nil => exact absurd hhost h
  | cons e rest =>
    unfold State.workLeft
    cases e with
    | idle => simp [takeEvent_of_idle hhost, hhost]
    | reset => simp [takeEvent_of_reset hhost, hhost]; omega
    | present w => cases hlat : s.latencies <;> simp [takeEvent_of_present hhost, hhost, hlat] <;> omega

theorem takeEvent_workLeft_le (s : State) : (takeEvent s).workLeft ≤ s.workLeft := by
  by_cases h : s.host = []
  · rw [takeEvent_of_nil h]
  · exact (takeEvent_workLeft_lt h).le

theorem age_work_le (queue : List PendingCommand) :
    ((queue.map PendingCommand.age).map (·.wait + 1)).sum ≤ (queue.map (·.wait + 1)).sum := by
  induction queue with
  | nil => exact le_rfl
  | cons p rest ih => simp only [List.map_cons, List.sum_cons, PendingCommand.age_wait]; omega

theorem aged_workLeft_le (s : State) : s.aged.workLeft ≤ s.workLeft := Nat.add_le_add_left (age_work_le s.inFlight) _

/-- While the oldest command waits, its delay gets shorter. -/
theorem aged_workLeft_lt {s : State} (hdue : NothingDue s.inFlight) (hqueue : s.inFlight ≠ []) :
    s.aged.workLeft < s.workLeft := by
  obtain ⟨p, rest, hcons⟩ := List.exists_cons_of_ne_nil hqueue
  rw [hcons, nothingDue_cons] at hdue
  have behind := age_work_le rest
  simp only [State.workLeft, State.aged_host, State.aged_latencies, State.aged_inFlight, hcons, List.map_cons, List.sum_cons,
    PendingCommand.age_wait]
  omega

theorem dequeued_workLeft_lt {s : State} {p : PendingCommand} {rest : List PendingCommand} (h : s.inFlight = p :: rest) :
    s.dequeued.workLeft < s.workLeft := by
  have behind := age_work_le rest
  simp only [State.workLeft, State.dequeued_host, State.dequeued_latencies, State.dequeued_inFlight, h, List.tail_cons,
    List.map_cons, List.sum_cons]
  omega

theorem answered_owed (s : State) (r : Response) : (answered s r).owed = s.owed := rfl

/-- The observation of `s` completed with the responses still owed, as `base` gives them. -/
def completed (base s : State) : List Response := s.responses ++ s.owed.map (commandResponse base)

/-- `s` is on the way of a contract-keeping host that does not reset `base`. -/
structure Serves (base s : State) : Prop where
  unit_eq : s.hasR2H = base.hasR2H
  mode_eq : s.gammaMode = base.gammaMode
  contract : s.contractKept = true
  no_reset : HostEvent.reset ∉ s.host
  completed_eq : completed base s = completed base base

/-- A step keeps the completed observation and does some of the work left. -/
theorem Serves.step {base s : State} (S : Serves base s) : ∃ t, step s = .next t ∧ Serves base t ∧
    (t.workLeft < s.workLeft ∨ s.host = [] ∧ s.inFlight = []) := by
  have tail_no_reset : HostEvent.reset ∉ (takeEvent s).host := by
    rw [takeEvent_host]
    exact fun hmem => S.no_reset (List.mem_of_mem_tail hmem)
  have event_completed : completed base (takeEvent s) = completed base base := by
    rw [← S.completed_eq, completed, completed, takeEvent_owed S.no_reset, takeEvent_responses]
  have hunit : (takeEvent s).hasR2H = base.hasR2H := (takeEvent_hasR2H s).trans S.unit_eq
  have hmode : (takeEvent s).gammaMode = base.gammaMode := (takeEvent_gammaMode s).trans S.mode_eq
  have contract := takeEvent_contractKept S.contract
  have event_le := takeEvent_workLeft_le s
  rcases step_of_contractKept S.contract S.unit_eq S.mode_eq with ⟨hnone, hstep⟩ | ⟨p, rest, hcons, hstep⟩
  · refine ⟨_, hstep, ⟨hunit, hmode, aged_contractKept contract, tail_no_reset, ?_⟩, ?_⟩
    · rw [← event_completed, completed, completed, aged_owed, State.aged_responses]
    · by_cases hhost : s.host = []
      · by_cases hqueue : s.inFlight = []
        · exact .inr ⟨hhost, hqueue⟩
        · rw [takeEvent_of_nil hhost] at hnone ⊢
          exact .inl (aged_workLeft_lt hnone hqueue)
      · exact .inl ((aged_workLeft_le _).trans_lt (takeEvent_workLeft_lt hhost))
  · refine ⟨_, hstep, ⟨hunit, hmode, dequeued_contractKept contract, tail_no_reset, ?_⟩, .inl ?_⟩
    · rw [← event_completed, completed, completed, answered_owed, owed_of_cons hcons, answered_responses,
        State.dequeued_responses, List.map_cons, List.append_assoc, List.singleton_append]
    · exact (dequeued_workLeft_lt hcons).trans_le event_le

theorem Serves.run {base s : State} (S : Serves base s) (k : Nat) :
    ∃ t, Host.Core.run Sys2Proof.core k s = .next t ∧ Serves base t := by
  refine run_keeps (fun u hu => ?_) k S
  obtain ⟨t, ht, hserves, -⟩ := hu.step
  exact ⟨t, ht, hserves⟩

/-- Work left is finite, so a run comes to a state with nothing in flight and nothing to come. -/
theorem Serves.finishes {base s : State} (S : Serves base s) :
    ∃ k t, Host.Core.run Sys2Proof.core k s = .next t ∧ Serves base t ∧ t.host = [] ∧ t.inFlight = [] := by
  induction hwork : s.workLeft using Nat.strong_induction_on generalizing s with
  | h work ih =>
    obtain ⟨u, hu, hserves, hless | ⟨hhost, hqueue⟩⟩ := S.step
    · obtain ⟨k, t, hrun, done⟩ := ih u.workLeft (hwork ▸ hless) hserves rfl
      exact ⟨k + 1, t, (run_succ_of_step hu k).trans hrun, done⟩
    · exact ⟨0, s, rfl, S, hhost, hqueue⟩

theorem Serves.responses_le_completed {base s : State} (S : Serves base s) : s.responses <+: completed base base :=
  ⟨_, S.completed_eq⟩

theorem Serves.responses_of_done {base s : State} (S : Serves base s) (hhost : s.host = []) (hqueue : s.inFlight = []) :
    s.responses = completed base base := by
  rw [← S.completed_eq, completed, State.owed, hhost, hqueue]
  simp

end Sys2Proof.Machine
end

section
/-! PROOF. Steps and runs (10_state.md R27, R28, R37; 20_memory.md R47; 70_reset_and_hazards.md R280, R283, R286, R287). -/

namespace Sys2Proof.Machine

open Sys2Proof.Claims

/-- Settles O47, by the three things a step that goes on can do. -/
theorem stepExtendsTheObservationByThePort : Obligations.StepExtendsTheObservationByThePort := by
  intro s t hstep
  rcases step_next_cases hstep with rfl | ⟨r, rfl | rfl⟩
  · exact ⟨takeEvent_hasR2H s, takeEvent_gammaMode s, takeEvent_host s, step_responses hstep, .inl (takeEvent_draws s).symm⟩
  · exact ⟨takeEvent_hasR2H s, takeEvent_gammaMode s, takeEvent_host s, step_responses hstep, .inl (takeEvent_draws s).symm⟩
  · exact ⟨takeEvent_hasR2H s, takeEvent_gammaMode s, takeEvent_host s, step_responses hstep,
      .inr ⟨congrArg (· + 1) (takeEvent_draws s).symm, Option.some_ne_none r⟩⟩

/-- Settles O46. What the port shows after a step is what the step added to the observation. -/
theorem stepKeepsPortShowingLastResponse : Obligations.StepKeepsPortShowingLastResponse :=
  fun _ _ _ hstep => portShowsLast_of_responses (step_responses hstep)

/-- Settles O43. A due word keeps the contract, so it decodes and is answered without a draw; the words left were there
before. -/
theorem honestHostIsNeverStopped : Obligations.HonestHostIsNeverStopped := by
  intro s hkept
  have event_kept := takeEvent_contractKept hkept
  rcases step_of_contractKept (base := s) hkept rfl rfl with ⟨-, hstep⟩ | ⟨p, rest, -, hstep⟩
  · exact ⟨_, hstep, aged_contractKept event_kept, takeEvent_draws s⟩
  · exact ⟨_, hstep, dequeued_contractKept event_kept, takeEvent_draws s⟩

/-- Settles O38, by whether the oldest command is due and what its word decodes to. -/
theorem stepRunsTheDecodedCommand : Obligations.StepRunsTheDecodedCommand := by
  refine ⟨fun s p rest i hqueue hdue hdecode => ?executes, fun s w rest i hhost hqueue hlatency hdecode => ?atOnce,
    fun s p rest hqueue hwaits => ?waits, fun s hqueue => ?empty, fun s p rest why hqueue hdue hdecode => ?reserved⟩
  case executes =>
    rw [step_of_due hqueue hdue, runWord_of_decode (by simpa using hdecode), State.dequeued, hqueue, List.tail_cons]
  case atOnce =>
    have event : (takeEvent s).inFlight = [⟨w, 0⟩] := by
      rw [takeEvent_inFlight_of_present hhost, hqueue, hlatency, List.nil_append]
    rw [step_of_due event rfl, runWord_of_decode (by simpa using hdecode), State.dequeued, event,
      takeEvent_of_present hhost, State.accept, ← hqueue]
    simp [hqueue]
  case waits => rw [step_of_nothingDue (by rwa [hqueue, nothingDue_cons]), State.aged, hqueue]
  case empty =>
    rw [step_of_nothingDue (by rw [hqueue]; exact nothingDue_nil), State.aged, hqueue, List.map_nil, ← hqueue]
  case reserved =>
    rw [step_of_due hqueue hdue]
    exact runWord_of_reserved (by simpa using hdecode)

/-- Settles O44. Nothing is in flight and nothing is to come, so both invariants hold of empty lists and an invalid port. -/
theorem resetStateIsQuiet : Obligations.ResetStateIsQuiet := ⟨rfl, rfl, rfl, rfl, rfl, rfl⟩

/-- Settles O45. The reset step empties the queue; idle steps find nothing there, and any response would show in the
observation. -/
theorem resetDropsCommandsUntilTheNextAnswer : Obligations.ResetDropsCommandsUntilTheNextAnswer := by
  refine ⟨fun s rest n k hhost hk => ?idle, fun s t rest k hhost hrun hsame => ?silent, rfl, rfl⟩
  case idle =>
    exact (run_succ_of_step (step_of_reset hhost) k).trans (run_idle k rfl rfl rfl hk)
  case silent =>
    rw [run_succ_of_step (step_of_reset hhost) k] at hrun
    exact run_quiet rfl hrun hsame

/-- Settles O48. The command is alone in the queue when it is accepted, so it stays the oldest until its delay is over. -/
theorem latencyDelaysTheResponse : Obligations.LatencyDelaysTheResponse := by
  intro s w rest n later hqueue hhost hreset hlatency hw
  have accepted : (takeEvent s).inFlight = [⟨w, n⟩] := by
    rw [takeEvent_inFlight_of_present hhost, hqueue, hlatency, List.nil_append, List.headD_cons]
  exact run_answers_oldest hw n accepted (by rwa [hhost]) rfl rfl

/-- Settles O49. The observation completed with the responses still owed never changes, and the work left runs out. -/
theorem runAnswersEveryCommandInOrder : Obligations.RunAnswersEveryCommandInOrder := by
  intro s hkept hreset
  have S : Serves s s := ⟨rfl, rfl, hkept, hreset, rfl⟩
  refine ⟨fun k => ?_, ?_⟩
  · obtain ⟨t, hrun, T⟩ := S.run k
    exact ⟨t, hrun, T.responses_le_completed⟩
  · obtain ⟨k, t, hrun, T, hhost, hqueue⟩ := S.finishes
    exact ⟨k, t, hrun, T.responses_of_done hhost hqueue, hqueue, hhost⟩

end Sys2Proof.Machine
end

section
/-! SUPPORT. Rounding as a division of doubles (00_scope.md R10), `to_small` of pair 5 on the decode table, the linear
branches of the analytic gamma functions (41_gamma_decode.md R146; 42_gamma_encode.md R165, R166), and the arcs of the hue
sectors (43_hsv_to_rgb.md R183). -/

namespace Sys2Proof.Machine

open Sys2Proof.Claims

/-- Doubled, the half of the divisor is exact for every divisor. -/
theorem rhu_eq_doubled_div (n d : Nat) : rhu n d = (2 * n + d) / (2 * d) := by
  rw [← Nat.div_div_eq_div_mul, Nat.mul_add_div two_pos, rhu]

/-! Gamma. -/

theorem toLarge_pair5_eq (i : Nat) : toLarge pair5 i = 257 * i := by
  rw [toLarge_pair5]
  dsimp only
  omega

theorem romG8L8_eq_toSmall : ∀ i, i < 256 → romRead romG8L8 i = toSmall pair5 (romRead romG8L16 i) := by decide +kernel

theorem gammaDec_linear {n : Nat} (hn : n ≤ 2650) : gammaDec n 65535 65535 = (50 * n + 323) / 646 := by
  rw [gammaDec, if_pos ((threshold_65535 n).2 hn)]
  omega

theorem gammaEnc8_linear {n : Nat} (hn : n ≤ 205) : gammaEnc n 65535 255 = (646 * n + 6425) / 12850 := by
  rw [gammaEnc, if_pos (by omega)]
  omega

theorem gammaEnc16_linear {n : Nat} (hn : n ≤ 205) : gammaEnc n 65535 65535 = (646 * n + 25) / 50 := by
  rw [gammaEnc, if_pos (by omega)]
  omega

/-! Hue sectors. -/

theorem hueSector_le_five {hw h : Nat} (hh : h < hw) : hueSector hw h ≤ 5 := by
  rw [hueSector]
  exact Nat.le_of_lt_succ (Nat.div_lt_of_lt_mul (by omega))

/-- A hue is in the arc of its sector when the codes just outside the arc fall into other sectors. -/
theorem hue_mem_arc {hw h first last : Nat} (hh : h < hw) (hfirst : first * 6 < hueSector hw h * hw + 6)
    (hlast : (hueSector hw h + 1) * hw ≤ last * 6 + 6) : first ≤ h ∧ h ≤ last := by
  have low : hueSector hw h * hw ≤ h * 6 := Nat.div_mul_le_self _ _
  have high : h * 6 < (hueSector hw h + 1) * hw := Nat.mul_comm hw _ ▸ Nat.lt_mul_div_succ _ (Nat.zero_lt_of_lt hh)
  omega

/-- The table of 43_hsv_to_rgb.md R183: for each `h_wrap`, by sector, the first and the last hue and their positions. -/
def hueArcs : List (Nat × List (Nat × Nat × Nat × Nat)) :=
  [(256, [(0, 42, 0, 252), (43, 85, 2, 254), (86, 127, 4, 250), (128, 170, 0, 252), (171, 213, 2, 254), (214, 255, 4, 250)]),
   (360, [(0, 59, 0, 354), (60, 119, 0, 354), (120, 179, 0, 354), (180, 239, 0, 354), (240, 299, 0, 354),
      (300, 359, 0, 354)]),
   (65536, [(0, 10922, 0, 65532), (10923, 21845, 2, 65534), (21846, 32767, 4, 65530), (32768, 43690, 0, 65532),
      (43691, 54613, 2, 65534), (54614, 65535, 4, 65530)])]

theorem hueArcs_cover : ∀ q ∈ hueArcs, ∀ sector < 6, ∃ arc ∈ q.2[sector]?,
    arc.1 * 6 < sector * q.1 + 6 ∧ (sector + 1) * q.1 ≤ arc.2.1 * 6 + 6 := by decide

end Sys2Proof.Machine
end

section
/-! PROOF. Rounding, closed forms, tables and sectors (00_scope.md R10; 40_range_rescaler.md R106, R134; 41_gamma_decode.md
R146, R148; 42_gamma_encode.md R162, R165 to R167; 43_hsv_to_rgb.md R183). -/

namespace Sys2Proof.Machine

open Sys2Proof.Claims

/-- Settles O16. Doubled, numerator and divisor need no half: `n / d + 1 / 2` is `(2 n + d) / (2 d)`. -/
theorem roundHalfUpIsTheRoundedRational : Obligations.RoundHalfUpIsTheRoundedRational := by
  refine ⟨fun n d hd => ?floor, fun n d hodd => ?odd⟩
  case floor =>
    have hd' : (d : ℚ) ≠ 0 := by positivity
    have doubled : (n : ℚ) / d + 1 / 2 = ((2 * n + d : ℕ) : ℚ) / ((2 * d : ℕ) : ℚ) := by
      push_cast
      field_simp
    rw [doubled, rhu_eq_doubled_div, ← Nat.floor_div_eq_div (K := ℚ), Int.natCast_floor_eq_floor (by positivity)]
  case odd => rw [rhu, show d / 2 = (d - 1) / 2 by omega]

/-- Settles O12. A plain channel takes maximum to maximum by exact rounding; the values of the three hue pairs are
computed. -/
theorem boundariesMapToBoundaries : Obligations.BoundariesMapToBoundaries :=
  ⟨fun p hp => ⟨toLarge_zero (rangePairs_small_pos p hp), toSmall_zero (rangePairs_large_pos p hp)⟩,
    fun p hp hplain => ⟨toLarge_small hplain (rangePairs_small_pos p hp), toSmall_large hplain (rangePairs_large_pos p hp)⟩,
    rfl, by decide, by decide⟩

/-- Settles O15. Each closed form is the quotient of its rule, reduced. -/
theorem rescalerClosedForms : Obligations.RescalerClosedForms := by
  rw [Obligations.RescalerClosedForms, toLarge_pair4, toSmall_pair4, toSmall_pair5, toLarge_pair6, toSmall_pair6,
    toLarge_pair9, toSmall_pair9, toLarge_pair11, toSmall_pair11]
  refine ⟨fun x _ => toLarge_pair5_eq x, fun y _ => ?bits, fun x _ => ?angleUp, fun y _ => ?angleDown, fun x _ => ?degreesUp,
    fun y _ => ?degreesDown, fun x _ => ⟨rfl, rfl⟩, fun x _ => ⟨rfl, rfl⟩⟩
  case bits => exact (by omega : (y * 255 + 32767) / 65535 = (y + 128) / 257)
  case angleUp => exact (by omega : (x * 65536 + 128) / 256 = 256 * x)
  case degreesUp => exact (by omega : (x * 360 + 128) / 256 = (45 * x + 16) / 32)
  case angleDown =>
    have reduced : (y * 256 + 32768) / 65536 = (y + 128) / 256 := by omega
    exact congrArg (· % 256) reduced
  case degreesDown =>
    have reduced : (y * 256 + 180) / 360 = (64 * y + 45) / 90 := by omega
    exact congrArg (· % 256) reduced

/-- Settles O20. The table is the formula and non-decreasing; the sum and the strict start are read off it. -/
theorem encodeTableIsTheFormula : Obligations.EncodeTableIsTheFormula :=
  ⟨romL8G8_eq_gammaEnc, by decide +kernel,
    fun i hi => romL8G8_mono (Set.mem_Iic.2 hi.le) (Set.mem_Iic.2 (Nat.succ_le_of_lt hi)) i.le_succ,
    by decide +kernel, rfl, rfl⟩

/-- Settles O24. The code `257 i` of 65535 is the code `i` of 255; the 8-bit decode table is the rescaled 16-bit one, entry
by entry. -/
theorem gammaTablesAgreeWithTheSixteenBitForms : Obligations.GammaTablesAgreeWithTheSixteenBitForms :=
  ⟨fun i hi => ⟨(gammaDec_mul_257 i (Nat.lt_succ_of_le hi)).symm, toLarge_pair5_eq i⟩,
    fun i hi => romG8L8_eq_toSmall i (Nat.lt_succ_of_le hi),
    fun i hi => (gammaEnc_mul_257 i (Nat.lt_succ_of_le hi)).symm⟩

/-- Settles O25, by reading both tables at all 256 bytes. -/
theorem eightBitGammaTripsAreNearInverse : Obligations.EightBitGammaTripsAreNearInverse :=
  ⟨by decide +kernel, by decide +kernel, by decide +kernel, by decide +kernel, by decide +kernel, by decide +kernel⟩

/-- Settles O18. In exact mode the three result functions are the analytic ones; below the threshold these are one rounded
quotient. -/
theorem analyticGammaInstructionsInExactMode : Obligations.AnalyticGammaInstructionsInExactMode := by
  refine ⟨fun hasR2H w => ?encoding, fun s ign x hexact => ?responses, fun n hn => gammaDec_linear hn,
    fun n hn => ⟨gammaEnc8_linear hn, gammaEnc16_linear hn⟩, takes_of_all (by decide +kernel),
    takes_of_all (by decide +kernel), takes_of_all (by decide +kernel), fun i hi => ?tables⟩
  case encoding =>
    exact ⟨decode_of_row (i := 26) rfl (by decide) hasR2H, decode_of_row (i := 28) rfl (by decide) hasR2H,
      decode_of_row (i := 29) rfl (by decide) hasR2H⟩
  case responses =>
    rw [computes_gdG16L16.answers_of_monotoneOnto (by decide) gammaDecode16_monotoneOnto,
      computes_geL16G8.answers_of_monotoneOnto (by decide) gammaEncode16to8_monotoneOnto,
      computes_geL16G16.answers_of_monotoneOnto (by decide) gammaEncode16_monotoneOnto, hexact]
    exact ⟨rfl, rfl, rfl⟩
  case tables => exact ⟨gammaEnc_mul_257 i (Nat.lt_succ_of_le hi), gammaEnc_romG8L16 i (Nat.lt_succ_of_le hi)⟩

/-- Settles O28. The arcs of the table are as wide as their sectors, whose codes they hold; the positions are computed. -/
theorem hueSectorArcs : Obligations.HueSectorArcs := by
  refine ⟨fun q hq h hh => ?arc, fun hw _ h hh => hueSector_le_five hh, by decide⟩
  case arc =>
    obtain ⟨arc, harc, hfirst, hlast⟩ := hueArcs_cover q hq _ (Nat.lt_succ_of_le (hueSector_le_five hh))
    exact ⟨arc, harc, hue_mem_arc hh hfirst hlast⟩

end Sys2Proof.Machine
end

section
/-! SUPPORT. The smallest channel of an H2R result (43_hsv_to_rgb.md R186), the trip of the value channel (43_hsv_to_rgb.md
R198), the widths that suffice for R2H (44_rgb_to_hsv.md R217) and the ties of its table (44_rgb_to_hsv.md R214). -/

namespace Sys2Proof.Machine

open Sys2Proof.Claims

/-! HSV to RGB. -/

/-- The smallest channel of a three-channel result. -/
def Tuple.smallest (t : Tuple) : Nat := min t.c2 (min t.c1 t.c0)

/-- In every sector one channel is `bot`, and none is below it while `part` fits between `bot` and `top`. -/
theorem assignSector_smallest (sector : Nat) {top bot part : Nat} (h : bot + part ≤ top) :
    (assignSector sector top bot part).smallest = bot := by
  unfold assignSector Tuple.smallest
  split <;> dsimp only <;> omega

/-- Saturation at most `max_sv` takes at most the whole value (43_hsv_to_rgb.md R182). -/
theorem rangeRgb_le_top {msv s : Nat} (hs : s ≤ msv) (mrgb v : Nat) :
    rhu (rangeHsv msv s v * mrgb) msv ≤ rhu (v * mrgb) msv := by
  refine rhu_mono _ (Nat.mul_le_mul_right _ (Nat.div_le_of_le_mul ?_))
  rw [Nat.mul_comm msv]
  exact Nat.mul_le_mul_left v hs

theorem part_le_range {hw : Nat} (hhw : 0 < hw) (position range : Nat) : position % hw * range / hw ≤ range :=
  Nat.div_le_of_le_mul (Nat.mul_le_mul_right _ (Nat.mod_lt _ hhw).le)

theorem hueSectorToRgb_smallest {hw msv s : Nat} (hhw : 0 < hw) (hs : s ≤ msv) (mrgb h v : Nat) :
    (hueSectorToRgb hw msv mrgb h s v).smallest = rhu (v * mrgb) msv - rhu (rangeHsv msv s v * mrgb) msv := by
  have range_le := rangeRgb_le_top hs mrgb v
  have part_le := part_le_range hhw (h * 6) (rhu (rangeHsv msv s v * mrgb) msv)
  exact assignSector_smallest _ (by omega)

/-- Full saturation takes the whole value as range. -/
theorem rangeHsv_full {msv : Nat} (hmsv : 0 < msv) (v : Nat) : rangeHsv msv msv v = v := Nat.mul_div_cancel v hmsv

/-- The value channel after the trip through RGB is the value rescaled there and back (43_hsv_to_rgb.md R198). -/
theorem value_of_trip (f : HsvFormat) (w : RgbFormat) (h : Nat) {s : Nat} (hs : s ≤ maxSv f) (v : Nat) :
    (rgbToHsv f w (hsvToRgb f w h s v).c2 (hsvToRgb f w h s v).c1 (hsvToRgb f w h s v).c0).c0 =
      rhu (rhu (v * maxRgb w) (maxSv f) * maxSv f) (maxRgb w) := by
  have largest : (hsvToRgb f w h s v).largest = rhu (v * maxRgb w) (maxSv f) := hueSectorToRgb_largest (hWrap_pos f) hs
  rw [rgbToHsv, rgbToHue_c0, ← largest, Tuple.largest]

/-! RGB to HSV. -/

theorem hWrap_le (f : HsvFormat) : hWrap f ≤ 65536 := by cases f <;> decide

theorem maxSv_le (f : HsvFormat) : maxSv f ≤ 65535 := Nat.le_of_lt_succ (maxSv_lt f)

theorem maxRgb_le (w : RgbFormat) : maxRgb w ≤ 65535 := Nat.le_of_lt_succ (maxRgb_lt w)

/-- A 16-bit channel times a 16-bit maximum, and half a 16-bit divisor, stay within 32 bits. -/
theorem rounded_numerator_lt {a m d : Nat} (ha : a ≤ 65535) (hm : m ≤ 65535) (hd : d ≤ 65535) : a * m + d / 2 < 2 ^ 32 := by
  have product := Nat.mul_le_mul ha hm
  omega

/-- Two rows of the table that hold together give the same term, for their sectors meet at the tie: but for row 6, whose
sector meets row 1 at the turn's end (44_rgb_to_hsv.md R214). -/
theorem hueTerm_rows {r g b top bot range : Nat} (htop : max r (max g b) = top) (hbot : min r (min g b) = bot)
    (hrange : top - bot = range) (hpos : bot < top) :
    (r = top ∧ b = bot → hueTerm r g b top bot range = g - bot) ∧
    (g = top ∧ b = bot → hueTerm r g b top bot range = top - r + range) ∧
    (g = top ∧ r = bot → hueTerm r g b top bot range = b - bot + 2 * range) ∧
    (b = top ∧ r = bot → hueTerm r g b top bot range = top - g + 3 * range) ∧
    (b = top ∧ g = bot → hueTerm r g b top bot range = r - bot + 4 * range) ∧
    (r = top ∧ g = bot ∧ b ≠ bot → hueTerm r g b top bot range = top - b + 5 * range) := by
  have bounds : (bot ≤ r ∧ bot ≤ g ∧ bot ≤ b) ∧ r ≤ top ∧ g ≤ top ∧ b ≤ top := by
    rw [← htop, ← hbot]
    omega
  unfold hueTerm
  refine ⟨fun row => if_pos row, fun row => ?green, fun row => ?cyan, fun row => ?blue, fun row => ?magenta, fun row => ?red⟩
  all_goals
    split_ifs
    all_goals omega

end Sys2Proof.Machine
end

section
/-! PROOF. What H2R and R2H keep (43_hsv_to_rgb.md R186, R198; 44_rgb_to_hsv.md R213, R214, R217). -/

namespace Sys2Proof.Machine

open Sys2Proof.Claims

/-- Settles O30. The assignment places `top` and `bot`, and the part of the chroma between them. -/
theorem hsvToRgbStaysBetweenBottomAndTop : Obligations.HsvToRgbStaysBetweenBottomAndTop := by
  intro f w h s v hh hs hv t top range
  have largest : t.largest = top := hueSectorToRgb_largest (hWrap_pos f) hs
  refine ⟨rangeRgb_le_top hs (maxRgb w) v, largest ▸ hsvToRgb_largest_le f w h hs hv, largest,
    hueSectorToRgb_smallest (hWrap_pos f) hs (maxRgb w) h v, ?black, ?gray, ?full⟩
  case black =>
    rintro rfl
    exact hueSectorToRgb_black (maxSv_pos f) _ _ _ _
  case gray =>
    rintro rfl
    exact hueSectorToRgb_gray (maxSv_pos f) _ _ _ _
  case full =>
    rintro rfl
    have range_eq : range = top := congrArg (fun v => rhu (v * maxRgb w) (maxSv f)) (rangeHsv_full (maxSv_pos f) v)
    rw [range_eq, Nat.sub_self]

/-- Settles O31. Where the RGB width is at least that of the value, rounding back undoes the rescaling. -/
theorem valueSurvivesTheTripThroughRgb : Obligations.ValueSurvivesTheTripThroughRgb := by
  intro q hq h s v _ hs _
  have wide_enough : ∀ q ∈ [(HsvFormat.hsv888, RgbFormat.rgb8), (.hsv888, .rgb16), (.hsvDecimal, .rgb8),
      (.hsvDecimal, .rgb16), (.hsv32, .rgb8), (.hsv32, .rgb16), (.hsv48, .rgb16)],
      maxSv q.1 / 2 + maxRgb q.2 / 2 < maxRgb q.2 := by decide
  rw [value_of_trip q.1 q.2 h hs]
  exact rhu_rhu_of_halves_lt (maxSv_pos q.1) (wide_enough q hq) v

/-- Settles O34. The largest hue and the bounds of saturation and value; the widths follow from 16-bit channels and a term
below six ranges. -/
theorem hueSaturationAndValueStayInRange : Obligations.HueSaturationAndValueStayInRange := by
  refine ⟨?bounds, fun f w => ?attained⟩
  case bounds =>
    intro f w r g b hr hg hb t top bot term
    have nominal : NominalRgb w r g b := ⟨hr, hg, hb⟩
    have top_le : top ≤ 65535 := nominal.max_le.trans (maxRgb_le w)
    have hue_le := nominal.hue_le f
    have term_lt (chroma : bot < top) : term < 6 * (top - bot) := hueTerm_lt rfl rfl rfl (Nat.sub_pos_of_lt chroma)
    refine ⟨hue_le, hue_le.trans_lt (largestHue_lt f w), rgbToHue_c1_le _ _ _ _ _ _, nominal.value_le f, term_lt,
      rounded_numerator_lt top_le (maxSv_le f) (maxRgb_le w),
      rounded_numerator_lt ((Nat.sub_le _ _).trans top_le) (maxSv_le f) top_le, fun chroma => ?term, by omega⟩
    have term_le : term ≤ 393209 := by
      have below := term_lt chroma
      omega
    exact ⟨term_le, (Nat.mul_le_mul term_le (hWrap_le f)).trans_lt (by decide)⟩
  case attained => cases f <;> cases w <;> decide

/-- Settles O35, by the rows before the one that holds. -/
theorem tiedRowsGiveTheSameHue : Obligations.TiedRowsGiveTheSameHue := by
  refine ⟨?rows, fun x y _ => ?redGray⟩
  case rows =>
    intro r g b top bot range hpos
    exact hueTerm_rows rfl rfl rfl hpos
  case redGray => rw [hueTerm, if_pos ⟨rfl, rfl⟩, Nat.sub_self]

end Sys2Proof.Machine
end

section
/-! SUPPORT. What the stages of a conversion make of black and of white (45_compositions.md R241 to R247; 95_test_vectors.md
section 5.1). -/

namespace Sys2Proof.Machine

open Sys2Proof.Claims

theorem mem_allReps (a : Rep) : a ∈ allReps := by cases a <;> decide

/-! One command. -/

theorem issue_of_answered {i : Instr} {s : State} {r : Response} (h : exec i s = .next (answered s r)) :
    issue i s = some (r, answered s r) := by
  rw [issue, h]
  rfl

/-- From every state, the command takes the channel `x` to `y`. -/
def ChannelTakes (mk : Lane → Instr) (x y : Lane) : Prop :=
  ∀ s, ∃ r, exec (mk x) s = .next (answered s r) ∧ rspLane0 r = y

theorem channelTakes_zero {mk : Ignored → Lane → Instr} (hmk : mk ∈ scalarInstrs) : ChannelTakes (mk 0) 0 0 := by
  intro s
  obtain ⟨scalar, -⟩ := zeroMapsToZero s
  exact ⟨0, scalar mk hmk 0, rfl⟩

theorem channelTakes_of_answers {mk : Lane → Instr} {x y : Nat}
    (h : ∀ s, exec (mk (BitVec.ofNat 16 x)) s = .next (answered s (BitVec.ofNat 48 y))) :
    ChannelTakes mk (BitVec.ofNat 16 x) (BitVec.ofNat 16 y) := by
  refine fun s => ⟨_, h s, BitVec.eq_of_toNat_eq ?_⟩
  simp [rspLane0]

/-! One stage. -/

/-- From every state, the stage takes the colour `c` to `d`. -/
def StageTakes (g : Stage) (c d : Colour) : Prop := ∀ s, ∃ t, runStage g c s = some (d, t)

theorem stageTakes_channels {fa fb fc : Lane → Instr} {c d : Colour} (ha : ChannelTakes fa c.c2 d.c2)
    (hb : ChannelTakes fb c.c1 d.c1) (hc : ChannelTakes fc c.c0 d.c0) : StageTakes (.channels fa fb fc) c d := by
  intro s
  obtain ⟨ra, hra, lane2⟩ := ha s
  obtain ⟨rb, hrb, lane1⟩ := hb (answered s ra)
  obtain ⟨rc, hrc, lane0⟩ := hc (answered (answered s ra) rb)
  refine ⟨answered (answered (answered s ra) rb) rc, ?_⟩
  simp [runStage, issue_of_answered hra, issue_of_answered hrb, issue_of_answered hrc, lane2, lane1, lane0]

theorem stageTakes_tuple {f : Lane → Lane → Lane → Instr} {c : Colour} {r : Response}
    (h : ∀ s, exec (f c.c2 c.c1 c.c0) s = .next (answered s r)) :
    StageTakes (.tuple f) c ⟨rspLane2 r, rspLane1 r, rspLane0 r⟩ := by
  intro s
  refine ⟨answered s r, ?_⟩
  simp [runStage, issue_of_answered (h s)]

/-- The stage takes black to black and white to white. -/
structure KeepsEnds (a b : Rep) (g : Stage) : Prop where
  black : StageTakes g (blackOf a) (blackOf b)
  white : StageTakes g (whiteOf a) (whiteOf b)

section
variable {a b : Rep} {mk rb g h sv : Ignored → Lane → Instr}

theorem keepsEnds_same {x y : Lane} (hmk : mk ∈ scalarInstrs) (hmax : ChannelTakes (mk 0) x y)
    (ha : whiteOf a = ⟨x, x, x⟩) (hb : whiteOf b = ⟨y, y, y⟩) : KeepsEnds a b (sameChannels (mk 0)) where
  black := stageTakes_channels (channelTakes_zero hmk) (channelTakes_zero hmk) (channelTakes_zero hmk)
  white := by
    rw [ha, hb]
    exact stageTakes_channels hmax hmax hmax

theorem keepsEnds_packed {x y x' y' : Lane} (hrb : rb ∈ scalarInstrs) (hg : g ∈ scalarInstrs)
    (maxrb : ChannelTakes (rb 0) x y) (maxg : ChannelTakes (g 0) x' y') (ha : whiteOf a = ⟨x, x', x⟩)
    (hb : whiteOf b = ⟨y, y', y⟩) : KeepsEnds a b (packedChannels (rb 0) (g 0)) where
  black := stageTakes_channels (channelTakes_zero hrb) (channelTakes_zero hg) (channelTakes_zero hrb)
  white := by
    rw [ha, hb]
    exact stageTakes_channels maxrb maxg maxrb

/-- White has hue 0 and saturation 0. -/
theorem keepsEnds_hueAndPair {x y : Lane} (hh : h ∈ scalarInstrs) (hsv : sv ∈ scalarInstrs)
    (maxsv : ChannelTakes (sv 0) x y) (ha : whiteOf a = ⟨0, 0, x⟩) (hb : whiteOf b = ⟨0, 0, y⟩) :
    KeepsEnds a b (hueAndPair (h 0) (sv 0)) where
  black := stageTakes_channels (channelTakes_zero hh) (channelTakes_zero hsv) (channelTakes_zero hsv)
  white := by
    rw [ha, hb]
    exact stageTakes_channels (channelTakes_zero hh) (channelTakes_zero hsv) maxsv

end

section
variable {a b : Rep} {i : Nat} {mk : Lane → Lane → Lane → Instr} {f : HsvFormat} {w : RgbFormat}

/-- White of an HSV representation is the gray of the largest value. -/
theorem hsvInstrs_answer_white (hinstr : hsvInstrs[i]? = some (mk, f, w)) (s : State) :
    exec (mk 0 0 (BitVec.ofNat 16 (maxSv f))) s =
      .next (answered s (tupleResponse ⟨maxRgb w, maxRgb w, maxRgb w⟩)) := by
  have value : (BitVec.ofNat 16 (maxSv f)).toNat = maxSv f := lane_toNat_ofNat (maxSv_lt f)
  have valid : NominalHsv f (0 : Lane).toNat (0 : Lane).toNat (BitVec.ofNat 16 (maxSv f)).toNat :=
    ⟨Nat.zero_le _, Nat.zero_le _, value.le⟩
  have white : hsvToRgb f w (0 : Lane).toNat (0 : Lane).toNat (maxSv f) = ⟨maxRgb w, maxRgb w, maxRgb w⟩ := by
    have gray := hueSectorToRgb_gray (maxSv_pos f) (hWrap f) (maxRgb w) 0 (maxSv f)
    rwa [rhu_mul_right _ (maxSv_pos f)] at gray
  rw [(computesTuple_of_mem_hsvInstrs (List.mem_of_getElem? hinstr)).answers 0 0 _ s valid, value, white]

theorem keepsEnds_hsv (hinstr : hsvInstrs[i]? = some (mk, f, w)) (ha : whiteOf a = ⟨0, 0, BitVec.ofNat 16 (maxSv f)⟩)
    (hb : whiteOf b = ⟨BitVec.ofNat 16 (maxRgb w), BitVec.ofNat 16 (maxRgb w), BitVec.ofNat 16 (maxRgb w)⟩) :
    KeepsEnds a b (.tuple mk) where
  black := stageTakes_tuple (r := 0) fun s =>
    hsvInstrs_answer_black (h := 0) (sat := 0) (List.mem_of_getElem? hinstr) (hWrap_pos f) (Nat.zero_le _) s
  white := by
    have takes := stageTakes_tuple (c := ⟨0, 0, BitVec.ofNat 16 (maxSv f)⟩) (hsvInstrs_answer_white hinstr)
    rw [rspLane2_tupleResponse, rspLane1_tupleResponse, rspLane0_tupleResponse] at takes
    rwa [ha, hb]

theorem rgbInstrs_answer_white (hinstr : rgbInstrs[i]? = some (mk, f, w)) (s : State) :
    exec (mk (BitVec.ofNat 16 (maxRgb w)) (BitVec.ofNat 16 (maxRgb w)) (BitVec.ofNat 16 (maxRgb w))) s =
      .next (answered s (tupleResponse ⟨0, 0, maxSv f⟩)) := by
  have largest : (BitVec.ofNat 16 (maxRgb w)).toNat = maxRgb w := lane_toNat_ofNat (maxRgb_lt w)
  have response : tupleResponse ⟨0, 0, maxSv f⟩ = BitVec.ofNat 48 (maxSv f) := by cases f <;> rfl
  rw [rgbInstrs_answer_gray hinstr largest.le s, largest, rhu_mul_right _ (maxRgb_pos w), response]

theorem keepsEnds_rgb (hinstr : rgbInstrs[i]? = some (mk, f, w))
    (ha : whiteOf a = ⟨BitVec.ofNat 16 (maxRgb w), BitVec.ofNat 16 (maxRgb w), BitVec.ofNat 16 (maxRgb w)⟩)
    (hb : whiteOf b = ⟨0, 0, BitVec.ofNat 16 (maxSv f)⟩) : KeepsEnds a b (.tuple mk) where
  black := stageTakes_tuple (r := 0) fun s => rgbInstrs_answer_black (List.mem_of_getElem? hinstr) s
  white := by
    have takes := stageTakes_tuple
      (c := ⟨BitVec.ofNat 16 (maxRgb w), BitVec.ofNat 16 (maxRgb w), BitVec.ofNat 16 (maxRgb w)⟩)
      (rgbInstrs_answer_white hinstr)
    rw [rspLane2_tupleResponse, rspLane1_tupleResponse, rspLane0_tupleResponse] at takes
    rwa [ha, hb]

end

/-- Every direct transform keeps black and white: its scalar commands by their values at 0 and at the largest operand, its
tuple commands by the grays. -/
theorem directStage_keepsEnds {a b : Rep} {g : Stage} (h : directStage a b = some g) : KeepsEnds a b g := by
  have largest (mk : Ignored → Lane → Instr) (x y : Nat) := fun hq =>
    channelTakes_of_answers (mk := mk 0) fun s => (maximumMapsToMaximum s).left (mk, x, y) hq 0
  unfold directStage at h
  split at h
  case h_43 => cases h
  all_goals obtain rfl := Option.some.inj h
  case h_1 | h_2 | h_3 | h_4 =>
    exact keepsEnds_packed (by simp [scalarInstrs]) (by simp [scalarInstrs]) (largest _ _ _ (by simp))
      (largest _ _ _ (by simp)) rfl rfl
  case h_5 | h_6 | h_7 | h_8 | h_9 | h_10 | h_11 | h_12 | h_13 | h_14 =>
    exact keepsEnds_same (by simp [scalarInstrs]) (largest _ _ _ (by simp)) rfl rfl
  case h_15 | h_16 | h_17 | h_18 | h_19 | h_20 | h_21 | h_22 | h_23 | h_24 | h_25 | h_26 =>
    exact keepsEnds_hueAndPair (by simp [scalarInstrs]) (by simp [scalarInstrs]) (largest _ _ _ (by simp)) rfl rfl
  case h_27 => exact keepsEnds_hsv (i := 0) rfl rfl rfl
  case h_28 => exact keepsEnds_hsv (i := 1) rfl rfl rfl
  case h_29 => exact keepsEnds_hsv (i := 2) rfl rfl rfl
  case h_30 => exact keepsEnds_hsv (i := 3) rfl rfl rfl
  case h_31 => exact keepsEnds_hsv (i := 4) rfl rfl rfl
  case h_32 => exact keepsEnds_hsv (i := 5) rfl rfl rfl
  case h_33 => exact keepsEnds_hsv (i := 6) rfl rfl rfl
  case h_34 => exact keepsEnds_hsv (i := 7) rfl rfl rfl
  case h_35 => exact keepsEnds_rgb (i := 0) rfl rfl rfl
  case h_36 => exact keepsEnds_rgb (i := 1) rfl rfl rfl
  case h_37 => exact keepsEnds_rgb (i := 2) rfl rfl rfl
  case h_38 => exact keepsEnds_rgb (i := 3) rfl rfl rfl
  case h_39 => exact keepsEnds_rgb (i := 4) rfl rfl rfl
  case h_40 => exact keepsEnds_rgb (i := 5) rfl rfl rfl
  case h_41 => exact keepsEnds_rgb (i := 6) rfl rfl rfl
  case h_42 => exact keepsEnds_rgb (i := 7) rfl rfl rfl

/-! Routes. -/

/-- A route is one direct transform or two. -/
theorem route_cases {hasR2H : Bool} {a b : Rep} {gs : List Stage} (h : route hasR2H a b = some gs) :
    (∃ d, directStage a b = some d ∧ gs = [d]) ∨
      ∃ m d e, directStage a m = some d ∧ directStage m b = some e ∧ gs = [d, e] := by
  unfold route at h
  split at h
  · cases h
  · split at h
    · next d hd => exact .inl ⟨d, hd, (Option.some.inj h).symm⟩
    · split at h
      · next d e hd he => exact .inr ⟨_, d, e, hd, he, (Option.some.inj h).symm⟩
      · cases h

theorem route_lengths : ∀ a ∈ allReps, ∀ b ∈ allReps, a ≠ b →
    (route true a b).map List.length = some 1 ∨ (route true a b).map List.length = some 2 := by decide

/-- From every state, the stages take the colour `c` to `d`. -/
def StagesTake (gs : List Stage) (c d : Colour) : Prop := ∀ s, ∃ t, runStages gs c s = some (d, t)

theorem stagesTake_nil (c : Colour) : StagesTake [] c c := fun s => ⟨s, rfl⟩

theorem stagesTake_cons {g : Stage} {gs : List Stage} {c d e : Colour} (hg : StageTakes g c d) (hgs : StagesTake gs d e) :
    StagesTake (g :: gs) c e := by
  intro s
  obtain ⟨u, hu⟩ := hg s
  obtain ⟨t, ht⟩ := hgs u
  refine ⟨t, ?_⟩
  simp [runStages, hu, ht]

theorem route_keepsEnds {hasR2H : Bool} {a b : Rep} {gs : List Stage} (h : route hasR2H a b = some gs) :
    StagesTake gs (blackOf a) (blackOf b) ∧ StagesTake gs (whiteOf a) (whiteOf b) := by
  rcases route_cases h with ⟨d, hd, rfl⟩ | ⟨m, d, e, hd, he, rfl⟩
  · have D := directStage_keepsEnds hd
    exact ⟨stagesTake_cons D.black (stagesTake_nil _), stagesTake_cons D.white (stagesTake_nil _)⟩
  · have D := directStage_keepsEnds hd
    have E := directStage_keepsEnds he
    exact ⟨stagesTake_cons D.black (stagesTake_cons E.black (stagesTake_nil _)),
      stagesTake_cons D.white (stagesTake_cons E.white (stagesTake_nil _))⟩

theorem convert_of_route {a b : Rep} {s : State} {gs : List Stage} (h : route s.hasR2H a b = some gs) (c : Colour) :
    convert a b c s = runStages gs c s := by
  simp [convert, h]

end Sys2Proof.Machine
end

section
/-! PROOF. The conversions (45_compositions.md R247; 95_test_vectors.md section 5.1). -/

namespace Sys2Proof.Machine

open Sys2Proof.Claims

/-- Settles O54, by the matrix of routes. -/
theorem conversionRoutesHaveAtMostOneIntermediate : Obligations.ConversionRoutesHaveAtMostOneIntermediate := by
  refine ⟨fun a b hne => ?routes, by decide, by decide, fun a b hne => ?withoutUnit⟩
  case routes =>
    rcases route_lengths a (mem_allReps a) b (mem_allReps b) hne with hone | htwo
    · obtain ⟨gs, hgs, hlength⟩ := Option.map_eq_some_iff.1 hone
      exact ⟨gs, hgs, .inl hlength⟩
    · obtain ⟨gs, hgs, hlength⟩ := Option.map_eq_some_iff.1 htwo
      exact ⟨gs, hgs, .inr hlength⟩
  case withoutUnit =>
    have matrix : ∀ a ∈ allReps, ∀ b ∈ allReps, a ≠ b → (((route false a b).map List.length) = none ↔
        (a ∈ [Rep.p565, .rgb888, .rgb16, .lin888, .lin16] ∧ b ∈ [Rep.hsv888, .hsvDecimal, .hsv32, .hsv48])) := by decide
    exact matrix a (mem_allReps a) b (mem_allReps b) hne

/-- Settles O53. Every conversion has a route, and each stage of it keeps black and white. -/
theorem conversionsKeepBlackAndWhite : Obligations.ConversionsKeepBlackAndWhite := by
  intro s a b hunit hne
  obtain ⟨routes, -⟩ := conversionRoutesHaveAtMostOneIntermediate
  obtain ⟨gs, hroute, -⟩ := routes a b hne
  obtain ⟨black, white⟩ := route_keepsEnds hroute
  rw [← hunit] at hroute
  rw [convert_of_route hroute, convert_of_route hroute]
  exact ⟨black s, white s⟩

end Sys2Proof.Machine
end
